-- ==== Sys2Proof/Word.lean ====
section
/-! DEFINITION. The word types of the block: the unsigned registers of `10_state.md` under the spec's own
names for their widths (`00_scope.md` rule R9). Arithmetic inside a rule is done in the integers (rule R10);
the narrowing operations are in Sys2Proof/Machine/Arith.lean. -/

namespace Sys2Proof

/-- A 2-bit code (rule R9). -/
abbrev U2 := BitVec 2
/-- A 3-bit Hall pattern (rule R102: bit 0 is Hall A, bit 1 Hall B, bit 2 Hall C). -/
abbrev U3 := BitVec 3
/-- A u8 register; every electrical angle is one, 256 steps being one turn (rule R14). -/
abbrev U8 := BitVec 8
/-- A 12-bit ADC operand field of an event word (rule R101). -/
abbrev U12 := BitVec 12
/-- A u16 register; a tick of the free-running counter is one (`TICK_W = 16`, decision D3). -/
abbrev U16 := BitVec 16
/-- A u32 register, and the event word of rule R101. -/
abbrev U32 := BitVec 32

end Sys2Proof
end

