-- ==== Sys2Proof/Config.lean ====
section
/-! DEFINITION. What an implementation fixes: the named parameters of `00_scope.md` rule R7 as one record
(`Params`), the configuration record of `10_state.md` rule R40 (`CfgRec`), and the free values, which are
opaque constants with no body. The reference parameter set `P_REF` is in Sys2Proof/Machine/Reference.lean and
the constraints of rules R7 and R40 are in Sys2Proof/Machine/Legal.lean. -/

namespace Sys2Proof

/-- Format `MTYPE` of `30_encoding.md` rule R113: the motor electrical type. -/
inductive MotorType where
  /-- code 0 -/
  | motorA
  /-- code 1 -/
  | motorB
deriving DecidableEq, Repr, Inhabited

/-- Format `AUXF` of `30_encoding.md` rule R112: the 2-bit optional-ADC function. All four codes are values of
the field; a record that carries `reserved` is refused (rules R8, R112, R354). -/
inductive AuxFunction where
  /-- code 0, NONE: the channel is unused -/
  | noFunction
  /-- code 1, THROTTLE -/
  | throttle
  /-- code 2, TEMPERATURE -/
  | temperature
  /-- code 3, reserved -/
  | reserved
deriving DecidableEq, Repr, Inhabited

/-- One point pair of the torque linearization table (rules R40, R286). -/
structure LinPoint where
  x : U16
  y : U16
deriving DecidableEq, Repr, Inhabited

/-- The configuration record `CFG`, field by field as `10_state.md` rule R40 lists it. It has no byte layout
(`20_memory.md` rule R73). -/
structure CfgRec where
  wheelPerimeterMm : U16
  speedMax : U8
  powerMult : U16
  powerMultSoft : U16
  torqueMult : U16
  torqueMultSoft : U16
  hybrid : Bool
  softStart : Bool
  iMax : U16
  powerMaxW : U16
  iMinFloor : U16
  vbatCutoff : U16
  auxFunction : AuxFunction
  motorType : MotorType
  hallAngle : Vector U8 6
  hallOffset : Vector U8 6
  tqLin : Vector LinPoint 6
  tqLinEnabled : Bool
  tqPerStepX100 : U16
  fwEnabled : Bool
  awprThreshold : U16
  tempMin : U8
  tempMax : U8
  rampUpCap : U8
  rampDownCap : U8
  /-- The light configuration: a field with no behaviour in the core (rules R5, R40). -/
  lightConfig : U8
deriving DecidableEq, Repr, Inhabited

/-- The SVM waveform table (`20_memory.md` rule R70): the test fixture `SVM_TEST`, or any 256 entries. -/
inductive SvmTable where
  | fixture
  | given (entries : Vector U8 256)
deriving DecidableEq, Repr

/-- The arcsine table (rule R70): the test fixture `ASIN_TEST`, or any 128 entries. -/
inductive AsinTable where
  | fixture
  | given (entries : Vector U8 128)
deriving DecidableEq, Repr

/-- The ten eMTB curves (rule R70): the test fixture `EMTB_TEST`, or any ten curves of 241 entries. -/
inductive EmtbTable where
  | fixture
  | given (curves : Vector (Vector U16 241) 10)
deriving DecidableEq, Repr

/-- The total function `FOC_ARG` (rules R7, R183, open): the reference function of rule R183, or the `k`-th
function of which nothing is known (`Config.focArgOpen k`). -/
inductive FocArg where
  | reference
  | unknown (k : Nat)
deriving DecidableEq, Repr

/-- The total function `TEMP_FROM_ADC` (rules R7, R331, open): the reference identity, or the `k`-th function
of which nothing is known (`Config.tempFromAdcOpen k`). -/
inductive TempFromAdc where
  | reference
  | unknown (k : Nat)
deriving DecidableEq, Repr

/-- `FOC_GATE_SENSE` (rules R7, R182). -/
inductive FocGateSense where
  | engage
  | suppress
deriving DecidableEq, Repr

/-- `RAMP_COMBINE` (rules R7, R309). -/
inductive RampCombine where
  | max
  | min
deriving DecidableEq, Repr

/-- The parameter set: one field for every row of the table of `00_scope.md` rule R7, in its order. `TICK_W` is
fixed at 16 by decision D3 and is the width of `U16`; `CAD_RPM_NUM` is defined by rule R250 from two other rows
(`Params.cadRpmNum`). A set that breaks a constraint of the table is refused (rule R8, `Params.wf`). -/
structure Params where
  hallTickHz : Nat
  minInterpErps : Nat
  stallTicks : Nat
  revSector : Nat
  revTicksInvalid : Nat
  pwmHz : Nat
  svmTable : SvmTable
  svmMid : Nat
  pwmMid : Nat
  phaseAOffset : Nat
  phaseCOffset : Nat
  dutyMax : Nat
  fwMax : Nat
  dutyStartup : Nat
  erpsEnableMax : Nat
  phaseIMax : Nat
  erpsMax : Nat
  iAdcMax : Nat
  rampUpMin : Nat
  rampDownMin : Nat
  rampUpDefault : Nat
  rampDownDefault : Nat
  /-- Bit k-1 set: trip condition ck forces `RAMP_DOWN_MIN` (rule R204). -/
  forceFastMask : BitVec 6
  iShift : Nat
  vShift : Nat
  adcIMaxSample : Nat
  adcVMaxSample : Nat
  adcTMaxSample : Nat
  adcAuxMaxSample : Nat
  mvPerVstep : Nat
  maPerIstep : Nat
  asinTable : AsinTable
  focArg : FocArg
  focKA : Nat
  focKB : Nat
  focDutyLow : Nat
  focILow : Nat
  focErpsBandLo : Nat
  focErpsBandHi : Nat
  focGateSense : FocGateSense
  focShift : Nat
  pasPrevValid : Vector U2 4
  pasCyclesPerRev : Nat
  cadTicksStartup : Nat
  cadSchmitt : Nat
  cadStopTicksSlow : Nat
  cadStopTicksFast : Nat
  cadAdjSpeedLo : Nat
  cadAdjSpeedHi : Nat
  cadSynthRpm : Nat
  whlTicksMin : Nat
  whlTicksMax : Nat
  /-- Enters no rule; it gives tick-counted parameters their meaning as durations (rule R446, decision D44). -/
  tickPeriodMs : Nat
  tqZeroTicks : Nat
  tqOffShift : Nat
  tqCalBias : Int
  tqOffsetMin : Nat
  tqOffsetMax : Nat
  tqRawMin : Nat
  tqRawMax : Nat
  tqWToX100Num : Nat
  tqWToX100Den : Nat
  pedalPowerDiv : Nat
  powerMultDiv : Nat
  torqueMultDiv : Nat
  rampSpeedLo : Nat
  rampSpeedHi : Nat
  rampCadLo : Nat
  rampCadHi : Nat
  rampUpAtRest : Nat
  rampDownAtRest : Nat
  rampCombine : RampCombine
  emtbTable : EmtbTable
  walkSpeedMaxX10 : Nat
  walkDutyMax : Nat
  walkIMax : Nat
  walkRampUp : Nat
  walkRampDown : Nat
  cruiseSpeedMinX10 : Nat
  cruiseKpA : Nat
  cruiseKpB : Nat
  cruiseKiA : Nat
  cruiseKiB : Nat
  cruiseKiDiv : Nat
  cruiseISeed : Nat
  cruiseILimit : Nat
  cruiseOutMax : Nat
  cruiseRampUp : Nat
  cruiseRampDown : Nat
  calDutyMax : Nat
  calRampUp : Nat
  calRampDown : Nat
  fwBonusMinAngle : Nat
  fwBonusNum : Nat
  fwBonusDen : Nat
  thrAdcMin : Nat
  thrAdcMax : Nat
  thrRampUpLo : Nat
  thrRampUpHi : Nat
  thrRampDown : Nat
  thrSpeedLo : Nat
  thrSpeedHi : Nat
  tempFromAdc : TempFromAdc
  speedWin : Nat
  mbIMin : Nat
  mbErpsMax : Nat
  mbTicks : Nat
  mbCooldownTicks : Nat
  commMissMax : Nat
deriving DecidableEq, Repr

/-- The functions `FOC_ARG` of which nothing is known: rule R183 leaves `FOC_ARG` open (log entry 4). -/
opaque Config.focArgOpen (k : Nat) (motor : MotorType) (duty ibatFilt erps : Nat) : Nat

/-- The functions `TEMP_FROM_ADC` of which nothing is known: rule R331 leaves it open (log entry 4). -/
opaque Config.tempFromAdcOpen (k : Nat) (sample : Nat) : Nat

/-- The configuration record after a RESET event: 'unspecified (any record)' (rule R420; entry I1 of
`93_implementation_defined.md`). One unknown record for every value of the counter `State.freeCount`
(log entry 5). -/
opaque Config.freeCfg (n : Nat) : CfgRec

end Sys2Proof
end

