-- ==== Sys2Proof/Syntax.lean ====
section
/-! DEFINITION. The whole instruction syntax: one constructor of `Instr` per row of `spec/opcode_table.json`
(76 rows), the command record of `10_state.md` rule R39, and what the environment delivers (`Input`). -/

namespace Sys2Proof

/-- The command record of `10_state.md` rule R39; both `CMD_IN` and `CMD` hold one. A present optional field has
its `has…` bit set. -/
structure CmdRec where
  mode : U8
  modeParam : U8
  /-- Bit 0: field weakening requested (decision D33). The other bits have no behaviour here. -/
  flags : U8
  hasSpeedMax : Bool
  speedMax : U8
  hasAuxFunction : Bool
  auxFunction : AuxFunction
  hasIMax : Bool
  iMax : U16
  hasPowerMax : Bool
  powerMaxW : U16
  hasAccel : Bool
  accel : U8
deriving DecidableEq, Repr, Inhabited

/-- Every field 0, every `has…` bit false (rules R39, R420). -/
def CmdRec.empty : CmdRec :=
  { mode := 0, modeParam := 0, flags := 0, hasSpeedMax := false, speedMax := 0, hasAuxFunction := false,
    auxFunction := .noFunction, hasIMax := false, iMax := 0, hasPowerMax := false, powerMaxW := 0,
    hasAccel := false, accel := 0 }

/-- The operations and code values of `spec/opcode_table.json`, in the table's order.

The first nine are the event words of format `EV32` (`30_encoding.md` rule R101). The 24 of format `SUB` are the
sub-operations of rule R103, each with the operand of its parent's event word that its rule takes. The rest are the
values of the code spaces `HALL3`, `PAS4`, `MODE`, `SYS`, `CMODE`, `AUXF`, `MTYPE`, each standing for the behaviour
that the value selects (log entry 2). -/
inductive Instr where
  -- EV32, rule R101
  | reset
  | cfgLoad (record : CfgRec)
  | cmdRx (record : CmdRec)
  | hallEdge (tick : U16) (hall : U3)
  | pwmRising (adcVbat adcIbat : U12) (brake whl : Bool) (pas : U2)
  | pwmFalling (tick : U16)
  | tickBegin (adcAux adcTorque : U12)
  | tickEnd
  | evReserved (low : BitVec 31)
  -- SUB of PWM_RISING, rule R103
  | ibatFilter (adcIbat : U12)
  | pinLatch (adcVbat : U12) (brake : Bool)
  | cadStep (pas : U2)
  | whlStep (whl : Bool)
  | rampStep
  -- SUB of PWM_FALLING
  | stallCheck (tick : U16)
  | erpsDerive
  | interp
  | svmSynth
  | cmpCommit
  -- SUB of TICK_BEGIN
  | cmdLatch
  | snapshot
  | vbatFilter
  | whlSpeed
  | cadRpm
  | tqAcquire (adcTorque : U12)
  | faultDetect
  | modePolicy
  | postProcess (adcAux : U12)
  | globalCaps
  | focUpdate
  | telemetryStage (adcAux : U12)
  -- SUB of TICK_END
  | publish
  | pwmGate
  -- HALL3, rules R104, R105
  | hallS0 (tick : U16)
  | hallS1 (tick : U16)
  | hallS2 (tick : U16)
  | hallS3 (tick : U16)
  | hallS4 (tick : U16)
  | hallS5 (tick : U16)
  | hallInv0 (tick : U16)
  | hallInv7 (tick : U16)
  -- PAS4, rule R106: the pair (old state, new state)
  | pas00Same
  | pas01Bwd
  | pas02Fwd
  | pas03Bwd
  | pas10Fwd
  | pas11Same
  | pas12Bwd
  | pas13Bwd
  | pas20Bwd
  | pas21Bwd
  | pas22Same
  | pas23Fwd
  | pas30Bwd
  | pas31Fwd
  | pas32Bwd
  | pas33Same
  -- MODE, rules R109, R118
  | modeOff
  | modePowerAssist
  | modeEmtbAssist
  | modeWalkAssist
  | modeCruise
  | modeMotorCalibration
  | modeReserved (code : U8)
  -- SYS, rule R110
  | sysNoError
  | sysMotorBlocked
  | sysTorqueSensorFault
  | sysCommLost
  -- CMODE, rule R111
  | cmodeBlocked
  | cmodeInterpolated
  -- AUXF, rule R112
  | auxfNone
  | auxfThrottle (adcAux : U12)
  | auxfTemperature (adcAux : U12)
  | auxfReserved
  -- MTYPE, rule R113
  | mtypeMotorA
  | mtypeMotorB
deriving DecidableEq, Repr

/-- The formats of `spec/opcode_table.json` other than `EV32`. -/
inductive Format where
  | sub
  | hall3
  | pas4
  | mode
  | sys
  | cmode
  | auxf
  | mtype
deriving DecidableEq, Repr

/-- The record that accompanies an event word (rule R101: `CFG` with CFG_LOAD, `CMD` with CMD_RX). -/
inductive Attachment where
  | nothing
  | cfg (record : CfgRec)
  | cmd (record : CmdRec)
deriving DecidableEq, Repr

/-- One item the environment delivers. `event` is the event word of rule R101 with the record that accompanies it.
`row` is the model's own: one row of the table of another format, run by itself, its operands laid out as in the event
word of its parent operation; no environment of the spec delivers one (log entry 2). -/
inductive Input where
  | event (word : U32) (att : Attachment)
  | row (fmt : Format) (code : U8) (operands : U32)
deriving DecidableEq, Repr

end Sys2Proof
end

