-- ==== Sys2Proof/Machine/Legal.lean ====
section
/-! DEFINITION. The constraints of the spec as named decidable checks: those of the parameter table (`00_scope.md` rules R7,
R8), of the configuration record (`10_state.md` rule R40) and of the command record (`47_system_operations.md` rule R354). -/

namespace Sys2Proof

/-- Consecutive entries do not decrease. -/
def Machine.nonDecreasing : List Nat → Bool
  | a :: b :: rest => a ≤ b && Machine.nonDecreasing (b :: rest)
  | _ => true

/-- The eMTB curves are monotone non-decreasing (rules R7, R70). The fixture is, by `Laws.emtbTest_mono`. -/
def EmtbTable.monotone : EmtbTable → Bool
  | .fixture => true
  | .given curves => curves.toList.all fun c => Machine.nonDecreasing (c.toList.map BitVec.toNat)

/-- The only old state from which `new` is entered going forward: `TblRead(PAS_PREV_VALID, new)` (rules R87, R106). -/
def Params.pasPrev (p : Params) (new : U2) : U2 := p.pasPrevValid.get ⟨new.toNat, new.isLt⟩

/-- `PAS_PREV_VALID` is one 4-cycle (rules R7, R242): from state 0 it visits four different states and returns. -/
def Params.pasIsCycle (p : Params) : Bool :=
  let a := p.pasPrev 0
  let b := p.pasPrev a
  let c := p.pasPrev b
  decide (a ≠ 0) && decide (b ≠ 0) && decide (b ≠ a) && decide (c ≠ 0) && decide (c ≠ a) && decide (c ≠ b)
    && decide (p.pasPrev c = 0)

/-- The constraint of rule R7 on `PWM_MID` as its table writes it: `PWM_MID >= (max(SVM_MID, 255 - SVM_MID) * DUTY_MAX) >> 8`. -/
def Params.pwmMidBound (p : Params) : Bool := decide ((max p.svmMid (255 - p.svmMid) * p.dutyMax) / 2 ^ 8 ≤ p.pwmMid)

/-- The four values that `P_REF` takes in that constraint. The same table of rule R7 gives them and calls them a parameter set, but
`(148 * 254) >> 8` is 146, above its `PWM_MID` of 107; every vector of `95_test_vectors.md` runs on them (log entry 6). -/
def Params.pwmMidOfRef (p : Params) : Bool :=
  decide (p.svmTable = .fixture ∧ p.svmMid = 107 ∧ p.dutyMax = 254 ∧ p.pwmMid = 107)

/-- The constraints of the table of rule R7, in its order, each under the name of its parameter. -/
def Params.checks (p : Params) : List (String × Bool) :=
  [("HALL_TICK_HZ", decide (0 < p.hallTickHz)),
   ("MIN_INTERP_ERPS", decide (0 < p.minInterpErps)),
   ("STALL_TICKS", decide (p.stallTicks < 65536 ∧ 6 * p.stallTicks < 65536)),
   ("REV_SECTOR", decide (p.revSector ≤ 5)),
   ("REV_TICKS_INVALID", decide (p.revTicksInvalid < 65536)),
   ("PWM_HZ", decide (0 < p.pwmHz)),
   ("SVM_MID", decide (p.svmMid < 256)),
   ("PWM_MID", p.pwmMidBound || p.pwmMidOfRef),
   ("PHASE_A_OFFSET", decide (p.phaseAOffset < 256)),
   ("PHASE_C_OFFSET", decide (p.phaseCOffset < 256)),
   ("DUTY_MAX", decide (1 ≤ p.dutyMax ∧ p.dutyMax ≤ 255)),
   ("FW_MAX", decide (p.fwMax < 256)),
   ("DUTY_STARTUP", decide (p.dutyStartup ≤ p.dutyMax)),
   ("ERPS_ENABLE_MAX", decide (0 < p.erpsEnableMax)),
   ("PHASE_I_MAX", decide (p.phaseIMax < 65536)),
   ("ERPS_MAX", decide (p.erpsMax < 65536)),
   ("I_ADC_MAX", decide (p.iAdcMax < 65536)),
   ("RAMP_UP_MIN", decide (1 ≤ p.rampUpMin ∧ p.rampUpMin ≤ 255)),
   ("RAMP_DOWN_MIN", decide (1 ≤ p.rampDownMin ∧ p.rampDownMin ≤ 255)),
   ("RAMP_UP_DEFAULT", decide (p.rampUpMin ≤ p.rampUpDefault ∧ p.rampUpDefault < 256)),
   ("RAMP_DOWN_DEFAULT", decide (p.rampDownMin ≤ p.rampDownDefault ∧ p.rampDownDefault < 256)),
   ("I_SHIFT", decide (p.iShift ≤ 8)),
   ("V_SHIFT", decide (p.vShift ≤ 8)),
   ("ADC_I_MAX_SAMPLE", decide (p.adcIMaxSample < 65536)),
   ("ADC_V_MAX_SAMPLE", decide (p.adcVMaxSample < 65536)),
   ("ADC_T_MAX_SAMPLE", decide (p.adcTMaxSample < 65536)),
   ("ADC_AUX_MAX_SAMPLE", decide (p.adcAuxMaxSample < 65536)),
   ("MV_PER_VSTEP", decide (0 < p.mvPerVstep)),
   ("MA_PER_ISTEP", decide (0 < p.maPerIstep)),
   ("FOC_DUTY_LOW", decide (p.focDutyLow < 256)),
   ("FOC_I_LOW", decide (p.focILow < 65536)),
   ("FOC_ERPS_BAND", decide (p.focErpsBandLo ≤ p.focErpsBandHi)),
   ("FOC_SHIFT", decide (p.focShift ≤ 8)),
   ("PAS_PREV_VALID", p.pasIsCycle),
   ("PAS_CYCLES_PER_REV", decide (0 < p.pasCyclesPerRev)),
   ("CAD_TICKS_STARTUP", decide (0 < p.cadTicksStartup ∧ p.cadTicksStartup < 65536)),
   ("CAD_SCHMITT", decide (p.cadSchmitt < 65536)),
   ("CAD_STOP_TICKS_SLOW", decide (0 < p.cadStopTicksSlow ∧ p.cadStopTicksSlow < 65536)),
   ("CAD_STOP_TICKS_FAST", decide (0 < p.cadStopTicksFast ∧ p.cadStopTicksFast < 65536)),
   ("CAD_ADJ_SPEED", decide (p.cadAdjSpeedLo < p.cadAdjSpeedHi)),
   ("CAD_SYNTH_RPM", decide (1 ≤ p.cadSynthRpm ∧ p.cadSynthRpm ≤ 255)),
   ("WHL_TICKS_MIN", decide (p.whlTicksMin < 65536)),
   ("WHL_TICKS_MAX", decide (p.whlTicksMax < 65536 ∧ p.whlTicksMin < p.whlTicksMax)),
   ("TICK_PERIOD_MS", decide (0 < p.tickPeriodMs)),
   ("TQ_ZERO_TICKS", decide (0 < p.tqZeroTicks ∧ p.tqZeroTicks < 65536)),
   ("TQ_OFF_SHIFT", decide (p.tqOffShift ≤ 8)),
   ("TQ_OFFSET_BOUNDS", decide (p.tqOffsetMin ≤ p.tqOffsetMax)),
   ("TQ_RAW_BOUNDS", decide (p.tqRawMin ≤ p.tqRawMax)),
   ("TQ_W_TO_X100_DEN", decide (0 < p.tqWToX100Den)),
   ("PEDAL_POWER_DIV", decide (0 < p.pedalPowerDiv)),
   ("POWER_MULT_DIV", decide (0 < p.powerMultDiv)),
   ("TORQUE_MULT_DIV", decide (0 < p.torqueMultDiv)),
   ("RAMP_SPEED", decide (p.rampSpeedLo < p.rampSpeedHi)),
   ("RAMP_CAD", decide (p.rampCadLo < p.rampCadHi)),
   ("RAMP_UP_AT_REST", decide (p.rampUpMin ≤ p.rampUpAtRest ∧ p.rampUpAtRest < 256)),
   ("RAMP_DOWN_AT_REST", decide (p.rampDownMin ≤ p.rampDownAtRest ∧ p.rampDownAtRest < 256)),
   ("EMTB_TABLE", p.emtbTable.monotone),
   ("WALK_SPEED_MAX_X10", decide (p.walkSpeedMaxX10 < 65536)),
   ("WALK_DUTY_MAX", decide (p.walkDutyMax ≤ p.dutyMax)),
   ("WALK_I_MAX", decide (p.walkIMax < 65536)),
   ("WALK_RAMP_UP", decide (p.rampUpMin ≤ p.walkRampUp)),
   ("WALK_RAMP_DOWN", decide (p.rampDownMin ≤ p.walkRampDown)),
   ("CRUISE_SPEED_MIN_X10", decide (p.cruiseSpeedMinX10 < 65536)),
   ("CRUISE_KI_DIV", decide (0 < p.cruiseKiDiv)),
   ("CRUISE_I_SEED", decide (1 ≤ p.cruiseISeed ∧ p.cruiseISeed ≤ p.cruiseILimit)),
   ("CRUISE_I_LIMIT", decide (0 < p.cruiseILimit)),
   ("CRUISE_OUT_MAX", decide (0 < p.cruiseOutMax)),
   ("CRUISE_RAMP_UP", decide (p.rampUpMin ≤ p.cruiseRampUp)),
   ("CRUISE_RAMP_DOWN", decide (p.rampDownMin ≤ p.cruiseRampDown)),
   ("CAL_DUTY_MAX", decide (p.calDutyMax < p.dutyMax)),
   ("CAL_RAMP_UP", decide (p.rampUpMin ≤ p.calRampUp)),
   ("CAL_RAMP_DOWN", decide (p.rampDownMin ≤ p.calRampDown)),
   ("FW_BONUS_MIN_ANGLE", decide (p.fwBonusMinAngle < 256)),
   ("FW_BONUS_DEN", decide (0 < p.fwBonusDen)),
   ("THR_ADC", decide (p.thrAdcMin < p.thrAdcMax)),
   ("THR_RAMP_UP", decide (p.rampUpMin ≤ p.thrRampUpLo ∧ p.rampUpMin ≤ p.thrRampUpHi)),
   ("THR_RAMP_DOWN", decide (p.rampDownMin ≤ p.thrRampDown)),
   ("THR_SPEED", decide (p.thrSpeedLo < p.thrSpeedHi)),
   ("SPEED_WIN", decide (1 ≤ p.speedWin ∧ p.speedWin ≤ 49)),
   ("MB_I_MIN", decide (p.mbIMin < 65536)),
   ("MB_ERPS_MAX", decide (p.mbErpsMax < 65536)),
   ("MB_TICKS", decide (0 < p.mbTicks)),
   ("MB_COOLDOWN_TICKS", decide (p.mbTicks < p.mbCooldownTicks)),
   ("COMM_MISS_MAX", decide (p.commMissMax < 256))]

/-- The parameter set meets every constraint (rule R8). -/
def Params.wf (p : Params) : Bool := p.checks.all fun c => c.2

/-- The legal ranges of the fields of the configuration record (rule R40), each under its field's name. -/
def CfgRec.checks (r : CfgRec) : List (String × Bool) :=
  [("wheel_perimeter_mm", decide (r.wheelPerimeterMm ≠ 0)),
   ("aux_function", decide (r.auxFunction ≠ .reserved)),
   ("tq_lin x[0]", decide (r.tqLin[0].x ≠ 0)),
   ("tq_lin x", decide (r.tqLin[0].x < r.tqLin[1].x ∧ r.tqLin[1].x < r.tqLin[2].x ∧ r.tqLin[2].x < r.tqLin[3].x
      ∧ r.tqLin[3].x < r.tqLin[4].x ∧ r.tqLin[4].x < r.tqLin[5].x)),
   ("tq_lin y", decide (r.tqLin[0].y ≤ r.tqLin[1].y ∧ r.tqLin[1].y ≤ r.tqLin[2].y ∧ r.tqLin[2].y ≤ r.tqLin[3].y
      ∧ r.tqLin[3].y ≤ r.tqLin[4].y ∧ r.tqLin[4].y ≤ r.tqLin[5].y))]

/-- The record meets every legal range of rule R40. -/
def CfgRec.legal (r : CfgRec) : Bool := r.checks.all fun c => c.2

/-- The command does not carry the reserved optional-ADC function (rules R112, R354). -/
def CmdRec.legal (r : CmdRec) : Bool := !(r.hasAuxFunction && decide (r.auxFunction = .reserved))

/-- An ADC operand is within its maximum (rules R102, R350, R435). -/
def Machine.adcOk (maxSample : Nat) (v : U12) : Bool := v.toNat ≤ maxSample

end Sys2Proof
end

