-- ==== Sys2Proof/Machine/Arith.lean ====
section
/-! DEFINITION. The arithmetic primitives of `00_scope.md` rules R10 to R12: narrowing of integer results, the
clamp, the linear map, and the shift-based single-pole filter the filters of rules R184, R281, R360, R361 share. -/

namespace Sys2Proof.Machine

/-- `sat_N(v)` of rule R10 on a natural `v`. Also used where a rule writes a register without naming a narrowing:
rule R445 says that such a value is saturated or proved in range (log entry 8). -/
def sat (n v : Nat) : BitVec n := BitVec.ofNat n (min v (2 ^ n - 1))

/-- An integer stored in an i32 register, saturating at the two ends of the register (log entry 8). -/
def satI32 (v : Int) : BitVec 32 := BitVec.ofInt 32 (min (max v (-2147483648)) 2147483647)

/-- `clamp(v, lo, hi)` of rule R10 on naturals. -/
def clampNat (v lo hi : Nat) : Nat := min (max v lo) hi

/-- `clamp(v, lo, hi)` of rule R10 on integers. -/
def clampInt (v lo hi : Int) : Int := min (max v lo) hi

/-- The linear map primitive `map(x, in_lo, in_hi, out_lo, out_hi)` of rule R12. -/
def linMap (x inLo inHi outLo outHi : Nat) : Nat :=
  if x ≤ inLo then outLo
  else if inHi ≤ x then outHi
  else if outLo ≤ outHi then outLo + ((x - inLo) * (outHi - outLo)) / (inHi - inLo)
  else outLo - ((x - inLo) * (outLo - outHi)) / (inHi - inLo)

/-- `v >> k` of rule R10. -/
def shr (v k : Nat) : Nat := v / 2 ^ k

/-- One step of the shift-based single-pole filter: the accumulator loses its `2^-shift` part and gains the sample
(rules R184, R281, R360, R361). -/
def lowPass (shift acc sample : Nat) : Nat := acc - shr acc shift + sample

/-- `trunc_16(a - b)`: the difference of two samples of the tick counter (rules R10, R11, decision D3). -/
def tickDiff (a b : U16) : U16 := a - b

end Sys2Proof.Machine
end

