-- ==== Sys2Proof/Machine/Reference.lean ====
section
/-! DEFINITION. The reference parameter set `P_REF` of `00_scope.md` rule R7, its fixtures and reference functions
(`95_test_vectors.md` section 1, rules R183, R331), and the test configuration `P_CFG` that the trace line `CFG` with no field loads
(`30_encoding.md` rule R120). Every value here is the spec's own choice (decision D49); none is a fact of the source. -/

namespace Sys2Proof

/-- `SVM_TEST[i]`: a triangle around 107. -/
def Machine.svmTest (i : Nat) : Nat :=
  if i ≤ 64 then 107 + i else if i ≤ 192 then 107 + 128 - i else 107 + i - 256

/-- `ASIN_TEST[a]`. -/
def Machine.asinTest (a : Nat) : Nat := a / 2

/-- `EMTB_TEST[c][p]`. -/
def Machine.emtbTest (c p : Nat) : Nat := (p * p * (c + 1)) / 5760

/-- `FOC_ARG_REF(m, d, i, e)` of rule R183, `focK` being `FOC_K[m]`. -/
def Machine.focArgRef (focK d i e : Nat) : Nat :=
  if d = 0 then 127 else min ((focK * i * e / 2 ^ 7) / d) 127

/-- `TEMP_FROM_ADC_REF(x)` of rule R331. -/
def Machine.tempFromAdcRef (x : Nat) : Nat := min x 255

/-- `P_REF`, the last column of the table of rule R7. -/
def Machine.refParams : Params where
  hallTickHz := 250000
  minInterpErps := 10
  stallTicks := 4166
  revSector := 0
  revTicksInvalid := 65535
  pwmHz := 19047
  svmTable := .fixture
  svmMid := 107
  pwmMid := 107
  phaseAOffset := 171
  phaseCOffset := 85
  dutyMax := 254
  fwMax := 8
  dutyStartup := 30
  erpsEnableMax := 30
  phaseIMax := 187
  erpsMax := 650
  iAdcMax := 112
  rampUpMin := 24
  rampDownMin := 9
  rampUpDefault := 194
  rampDownDefault := 73
  forceFastMask := 0b111111
  iShift := 2
  vShift := 2
  adcIMaxSample := 255
  adcVMaxSample := 1023
  adcTMaxSample := 1023
  adcAuxMaxSample := 255
  mvPerVstep := 87
  maPerIstep := 160
  asinTable := .fixture
  focArg := .reference
  focKA := 142
  focKB := 80
  focDutyLow := 10
  focILow := 2
  focErpsBandLo := 40
  focErpsBandHi := 500
  focGateSense := .engage
  focShift := 4
  pasPrevValid := #v[1, 3, 0, 2]
  pasCyclesPerRev := 20
  cadTicksStartup := 7619
  cadSchmitt := 427
  cadStopTicksSlow := 4270
  cadStopTicksFast := 341
  cadAdjSpeedLo := 40
  cadAdjSpeedHi := 400
  cadSynthRpm := 1
  whlTicksMin := 165
  whlTicksMax := 39976
  tickPeriodMs := 25
  tqZeroTicks := 200
  tqOffShift := 4
  tqCalBias := 6
  tqOffsetMin := 10
  tqOffsetMax := 300
  tqRawMin := 10
  tqRawMax := 500
  tqWToX100Num := 167
  tqWToX100Den := 10
  pedalPowerDiv := 96
  powerMultDiv := 10
  torqueMultDiv := 1000
  rampSpeedLo := 40
  rampSpeedHi := 200
  rampCadLo := 20
  rampCadHi := 70
  rampUpAtRest := 24
  rampDownAtRest := 9
  rampCombine := .max
  emtbTable := .fixture
  walkSpeedMaxX10 := 60
  walkDutyMax := 80
  walkIMax := 31
  walkRampUp := 194
  walkRampDown := 73
  cruiseSpeedMinX10 := 90
  cruiseKpA := 12
  cruiseKpB := 14
  cruiseKiA := 1
  cruiseKiB := 1
  cruiseKiDiv := 1
  cruiseISeed := 500
  cruiseILimit := 1000
  cruiseOutMax := 1000
  cruiseRampUp := 70
  cruiseRampDown := 73
  calDutyMax := 253
  calRampUp := 24
  calRampDown := 9
  fwBonusMinAngle := 2
  fwBonusNum := 1
  fwBonusDen := 1
  thrAdcMin := 47
  thrAdcMax := 176
  thrRampUpLo := 194
  thrRampUpHi := 48
  thrRampDown := 73
  thrSpeedLo := 0
  thrSpeedHi := 400
  tempFromAdc := .reference
  speedWin := 2
  mbIMin := 30
  mbErpsMax := 20
  mbTicks := 8
  mbCooldownTicks := 120
  commMissMax := 10

/-- `P_CFG` of `95_test_vectors.md` section 1.2: what the trace line `CFG` with no field loads (rule R120, row EW2). -/
def Machine.refCfg : CfgRec where
  wheelPerimeterMm := 2050
  speedMax := 45
  powerMult := 20
  powerMultSoft := 10
  torqueMult := 20
  torqueMultSoft := 10
  hybrid := false
  softStart := false
  iMax := 100
  powerMaxW := 900
  iMinFloor := 0
  vbatCutoff := 300
  auxFunction := .noFunction
  motorType := .motorA
  hallAngle := #v[213, 0, 43, 85, 128, 171]
  hallOffset := #v[0, 0, 0, 0, 0, 0]
  tqLin := #v[⟨20, 50⟩, ⟨40, 120⟩, ⟨60, 200⟩, ⟨80, 300⟩, ⟨100, 420⟩, ⟨120, 560⟩]
  tqLinEnabled := false
  tqPerStepX100 := 67
  fwEnabled := false
  awprThreshold := 0
  tempMin := 50
  tempMax := 90
  rampUpCap := 60
  rampDownCap := 30
  lightConfig := 0

end Sys2Proof
end

