-- ==== Sys2Proof/Machine/State.lean ====
section
/-! DEFINITION. The state of the block as plain data: every register of `10_state.md`, grouped as its rules R23 to R40 group
them, the parameter set the block is built with, and the model's own fields (`work`, `inbox`, `freeCount`). The reasons
a step can stop, and the state after RESET (rule R420). -/

namespace Sys2Proof.Machine

/-- Format `CMODE` (rule R111): the commutation mode. -/
inductive CommMode where
  /-- code 0: no valid speed reference -/
  | blocked
  /-- code 1 -/
  | interpolated
deriving DecidableEq, Repr

/-- The riding mode held by `S.mode` (rules R38, R109). -/
inductive Mode where
  | off
  | powerAssist
  | emtbAssist
  | walkAssist
  | cruise
  | motorCalibration
deriving DecidableEq, Repr

/-- Format `SYS` (rules R37, R110): the soft faults, recomputed at every control tick. -/
inductive SysState where
  | noError
  | motorBlocked
  | torqueSensorFault
  | commLost
deriving DecidableEq, Repr

/-- RotorState (rule R23). -/
structure RotorState where
  hallLast : U3
  sector : Fin 6
  sectorAngle : U8
  sectorOffset : U8
  hallRefTick : U16
  calTicks : Vector U16 6
  revRefTick : U16
  revRefValid : Bool
  revTicks : U16
  commMode : CommMode
  erps : U16
deriving DecidableEq, Repr

/-- The telemetry record (rule R364). -/
structure Telemetry where
  vbatFilt : U16
  ibatFilt : U16
  wheelSpeedX10 : U16
  brake : Bool
  auxRaw : U16
  auxValue : U16
  cadenceRpm : U8
  dutyPct : U8
  erps : U16
  focAngle : U8
  faultCode : U2
  whlTotal : U32
  torqueX100 : U16
  hasCal : Bool
  calTicks : Vector U16 6
deriving DecidableEq, Repr

/-- The output registers (rule R25). -/
structure OutputRegs where
  cmpA : U16
  cmpB : U16
  cmpC : U16
  pwmEnabled : Bool
  tlm : Telemetry
deriving DecidableEq, Repr

/-- The FOC registers (rule R26). -/
structure FocState where
  focAngle : U8
  focAcc : U16
deriving DecidableEq, Repr

/-- DutyCycleState (rule R27). -/
structure DriveState where
  duty : U8
  fwAngle : U8
  dutyTarget : U8
  iTarget : U16
  rampUpPeriod : U8
  rampDownPeriod : U8
  rampUpCnt : U8
  rampDownCnt : U8
  fwEnabled : Bool
deriving DecidableEq, Repr

/-- The ADC and pin registers (rule R29). -/
structure AdcState where
  ibatAcc : U16
  ibatFilt : U16
  vbatRaw : U16
  brake : Bool
  vbatAcc : U32
  vbatFilt : U16
deriving DecidableEq, Repr

/-- CadenceState (rule R30). `cadRef = none` is the spec's own NONE. -/
structure CadenceState where
  pasOld : U2
  cadRef : Option U2
  cadCounter : U16
  cadTicks : U16
  cadStopCnt : U16
  cadStopMin : U16
  cadStopMinAdj : U16
  cadenceRpm : U8
deriving DecidableEq, Repr

/-- WheelSpeedState (rule R31). -/
structure WheelState where
  whlPinOld : Bool
  whlStarted : Bool
  whlCounter : U16
  whlTicks : U16
  whlTotal : U32
  wheelSpeedX10 : U16
deriving DecidableEq, Repr

/-- TorqueState (rule R32). -/
structure TorqueState where
  tqRaw : U16
  tqOffAcc : U32
  tqOffset : U16
  tqBootCnt : U16
  tqDelta : U16
  torqueX100 : U16
deriving DecidableEq, Repr

/-- The assist and fault working state (rule R33). `cruiseIntegral` is an i32 (rule R9). -/
structure AssistState where
  cruiseActive : Bool
  cruiseTargetX10 : U16
  cruiseIntegral : BitVec 32
  auxValue : U16
  mbCnt : U16
  mbCooldown : U16
  commMissed : U8
  cmdPending : Bool
  tickOpen : Bool
  cfgValid : Bool
deriving DecidableEq, Repr

/-- The control and status registers (rules R37, R38). -/
structure ControlRegs where
  systemState : SysState
  mode : Mode
  modeParam : U8
deriving DecidableEq, Repr

/-- The snapshot MAIN takes at TICK_BEGIN (rules R34, R356). -/
structure Snap where
  duty : U8
  fwAngle : U8
  ibatFilt : U16
  vbatRaw : U16
  brake : Bool
  erps : U16
  cadTicks : U16
  whlTicks : U16
  whlTotal : U32
  calTicks : Vector U16 6
deriving DecidableEq, Repr

/-- The outputs MAIN stages for TICK_END (rules R34, R358). -/
structure Pend where
  iTarget : U16
  dutyTarget : U8
  rampUpPeriod : U8
  rampDownPeriod : U8
  focAngle : U8
  cadStopMinAdj : U16
  fwEnabled : Bool
  tlm : Telemetry
deriving DecidableEq, Repr

/-- The four working values of a control tick (preamble of `46_assist_policies.md`): the target current, the target duty
cycle and the two ramp periods, naturals of the rules' integer arithmetic. -/
structure Targets where
  i : Nat
  dutyTgt : Nat
  up : Nat
  down : Nat
deriving DecidableEq, Repr

/-- The local values one atomic step passes from a sub-operation to the next: `raw` of rule R140, `interp` of rule R161, the
three new compare values of rule R165, the working values of `46_assist_policies.md`. The model's own field: zero
between the spec's atomic steps (log entry 2). -/
structure Work where
  raw : U16
  interp : U8
  newA : U16
  newB : U16
  newC : U16
  tgt : Targets
deriving DecidableEq, Repr

/-- The state of the block. -/
structure State where
  /-- The parameter set the block is built with (rules R7, R70); written by no operation (log entry 1). -/
  par : Params
  rotor : RotorState
  out : OutputRegs
  foc : FocState
  drive : DriveState
  adc : AdcState
  cad : CadenceState
  whl : WheelState
  tq : TorqueState
  asst : AssistState
  ctl : ControlRegs
  /-- The mailbox `CMD_IN` (rule R39). -/
  cmdIn : CmdRec
  /-- The latched command record `CMD` (rule R39). -/
  cmd : CmdRec
  /-- The configuration record `CFG` (rule R40). -/
  cfg : CfgRec
  snap : Snap
  pend : Pend
  /-- The model's own: the locals of a running atomic step (log entry 2). -/
  work : Work
  /-- The model's own: what the environment is yet to deliver, next first (log entry 3). -/
  inbox : List Input
  /-- The model's own: counts the free values taken (log entry 5). -/
  freeCount : Nat
deriving DecidableEq, Repr

/-- There is no fault that stops the block: 'The block raises no synchronous exception and takes no trap' (rule R380), and
'there is no unrecoverable/fatal state' (section 7 of the source, rule R390). Its soft faults are values of
`SysState`. Safe: a type with no constructor lets nothing be proved of a fault. -/
inductive Fault where
deriving DecidableEq, Repr

/-- Why the rules give a step no meaning (`refuse`, rule R13): the environment never does this. All are safe. -/
inductive Refusal where
  /-- Raised by no arm of this model; the name the row's host asks for. Safe. -/
  | notModelled (mnemonic : String)
  /-- Raised by the EV.RESERVED row: an event code of 8 to 15 (rule R117). Safe. -/
  | reservedEventCode
  /-- Raised by the step on an item with a nonzero bit that rule R101 says is zero (rule R117). Safe. -/
  | reservedBits
  /-- Raised by the step on an item whose code is no row of its format. Safe. -/
  | unknownRow
  /-- Raised by the step on CFG_LOAD or CMD_RX without its record (rule R101). Safe. -/
  | missingRecord
  /-- Raised by the step on a record beside a word that has none (rule R101). Safe. -/
  | strayRecord
  /-- Raised by an operation whose ADC operand is above its maximum (rules R102, R117, R435). Safe. -/
  | adcAboveMaximum
  /-- Raised by every event but RESET and CFG_LOAD before the first CFG_LOAD (rule R425). Safe. -/
  | notConfigured
  /-- Raised by CFG_LOAD on a record outside the legal ranges (rules R8, R40, R353). Safe. -/
  | illegalConfiguration
  /-- Raised by CMD_RX on a record with the reserved optional-ADC function, and by the AUXF.RESERVED row (rules R112,
  R354). Safe. -/
  | reservedAuxFunction
  /-- Raised by TICK_BEGIN while a tick is open (rule R434). Safe. -/
  | tickAlreadyOpen
  /-- Raised by TICK_END with no tick open (rule R434). Safe. -/
  | tickNotOpen
  /-- Raised by the step on a parameter set that breaks a constraint (rule R8). Safe. -/
  | illFormedParameters
  /-- Raised by a row of a code space whose register or field does not hold the row's code (log entry 2). Safe. -/
  | codeNotHeld
deriving DecidableEq, Repr

/-- Six zero counts. -/
def zeroTicks : Vector U16 6 := #v[0, 0, 0, 0, 0, 0]

/-- 'every field 0, has_cal false' (rule R420). -/
def Telemetry.zero : Telemetry :=
  { vbatFilt := 0, ibatFilt := 0, wheelSpeedX10 := 0, brake := false, auxRaw := 0, auxValue := 0, cadenceRpm := 0,
    dutyPct := 0, erps := 0, focAngle := 0, faultCode := 0, whlTotal := 0, torqueX100 := 0, hasCal := false,
    calTicks := zeroTicks }

/-- No value passed on. -/
def Work.zero : Work :=
  { raw := 0, interp := 0, newA := 0, newB := 0, newC := 0, tgt := { i := 0, dutyTgt := 0, up := 0, down := 0 } }

/-- What `CFG` holds in the model's first state: every field 0. The spec leaves it unspecified (rules R40, R420; DESIGN CHOICE,
log entry 5). -/
def unloadedCfg : CfgRec :=
  { wheelPerimeterMm := 0, speedMax := 0, powerMult := 0, powerMultSoft := 0, torqueMult := 0, torqueMultSoft := 0,
    hybrid := false, softStart := false, iMax := 0, powerMaxW := 0, iMinFloor := 0, vbatCutoff := 0,
    auxFunction := .noFunction, motorType := .motorA, hallAngle := #v[0, 0, 0, 0, 0, 0],
    hallOffset := #v[0, 0, 0, 0, 0, 0], tqLin := #v[⟨0, 0⟩, ⟨0, 0⟩, ⟨0, 0⟩, ⟨0, 0⟩, ⟨0, 0⟩, ⟨0, 0⟩],
    tqLinEnabled := false, tqPerStepX100 := 0, fwEnabled := false, awprThreshold := 0, tempMin := 0, tempMax := 0,
    rampUpCap := 0, rampDownCap := 0, lightConfig := 0 }

/-- Every register at its reset value (rule R420, the Reset columns of rules R23 to R40) for a parameter set, a
configuration record, what is yet to be delivered, and a count of free values. -/
def State.resetWith (p : Params) (cfg : CfgRec) (inbox : List Input) (freeCount : Nat) : State :=
  { par := p
    rotor :=
      { hallLast := 0, sector := 0, sectorAngle := 0, sectorOffset := 0, hallRefTick := 0, calTicks := zeroTicks,
        revRefTick := 0, revRefValid := false, revTicks := sat 16 p.revTicksInvalid, commMode := .blocked, erps := 0 }
    out :=
      { cmpA := sat 16 p.pwmMid, cmpB := sat 16 p.pwmMid, cmpC := sat 16 p.pwmMid, pwmEnabled := false,
        tlm := Telemetry.zero }
    foc := { focAngle := 0, focAcc := 0 }
    drive :=
      { duty := 0, fwAngle := 0, dutyTarget := 0, iTarget := 0, rampUpPeriod := sat 8 p.rampUpDefault,
        rampDownPeriod := sat 8 p.rampDownDefault, rampUpCnt := 0, rampDownCnt := 0, fwEnabled := false }
    adc := { ibatAcc := 0, ibatFilt := 0, vbatRaw := 0, brake := false, vbatAcc := 0, vbatFilt := 0 }
    cad :=
      { pasOld := 0, cadRef := none, cadCounter := 0, cadTicks := 0, cadStopCnt := 0,
        cadStopMin := sat 16 p.cadStopTicksSlow, cadStopMinAdj := sat 16 p.cadStopTicksSlow, cadenceRpm := 0 }
    whl := { whlPinOld := false, whlStarted := false, whlCounter := 0, whlTicks := 0, whlTotal := 0, wheelSpeedX10 := 0 }
    tq := { tqRaw := 0, tqOffAcc := 0, tqOffset := 0, tqBootCnt := 0, tqDelta := 0, torqueX100 := 0 }
    asst :=
      { cruiseActive := false, cruiseTargetX10 := 0, cruiseIntegral := 0, auxValue := 0, mbCnt := 0, mbCooldown := 0,
        commMissed := 0, cmdPending := false, tickOpen := false, cfgValid := false }
    ctl := { systemState := .noError, mode := .off, modeParam := 0 }
    cmdIn := CmdRec.empty
    cmd := CmdRec.empty
    cfg := cfg
    snap :=
      { duty := 0, fwAngle := 0, ibatFilt := 0, vbatRaw := 0, brake := false, erps := 0, cadTicks := 0, whlTicks := 0,
        whlTotal := 0, calTicks := zeroTicks }
    pend :=
      { iTarget := 0, dutyTarget := 0, rampUpPeriod := sat 8 p.rampUpDefault, rampDownPeriod := sat 8 p.rampDownDefault,
        focAngle := 0, cadStopMinAdj := sat 16 p.cadStopTicksSlow, fwEnabled := false, tlm := Telemetry.zero }
    work := Work.zero
    inbox := inbox
    freeCount := freeCount }

/-- The block right after RESET, built with the reference parameter set (log entries 1, 3, 5). -/
def State.reset : State := State.resetWith refParams unloadedCfg [] 0

end Sys2Proof.Machine
end

