-- ==== Sys2Proof/Machine/Ops.lean ====
section
/-! DEFINITION. The named operations over the registers: one write per register group, the clearing of a step's locals, and the
block's counterpart of taking an exception and returning from one (`60_exceptions.md` rules R380, R388, R389). The spec gives
the block no addressed memory (`20_memory.md` rules R70, R72), so there is no operation over memory. -/

namespace Sys2Proof.Machine

/-- Write the group `rotor`. -/
def State.withRotor (s : State) (v : RotorState) : State := { s with rotor := v }

/-- Write the group `out`. -/
def State.withOut (s : State) (v : OutputRegs) : State := { s with out := v }

/-- Write the group `foc`. -/
def State.withFoc (s : State) (v : FocState) : State := { s with foc := v }

/-- Write the group `drive`. -/
def State.withDrive (s : State) (v : DriveState) : State := { s with drive := v }

/-- Write the group `adc`. -/
def State.withAdc (s : State) (v : AdcState) : State := { s with adc := v }

/-- Write the group `cad`. -/
def State.withCad (s : State) (v : CadenceState) : State := { s with cad := v }

/-- Write the group `whl`. -/
def State.withWhl (s : State) (v : WheelState) : State := { s with whl := v }

/-- Write the group `tq`. -/
def State.withTq (s : State) (v : TorqueState) : State := { s with tq := v }

/-- Write the group `asst`. -/
def State.withAsst (s : State) (v : AssistState) : State := { s with asst := v }

/-- Write the group `ctl`. -/
def State.withCtl (s : State) (v : ControlRegs) : State := { s with ctl := v }

/-- Write the group `cmdIn`. -/
def State.withCmdIn (s : State) (v : CmdRec) : State := { s with cmdIn := v }

/-- Write the group `cmd`. -/
def State.withCmd (s : State) (v : CmdRec) : State := { s with cmd := v }

/-- Write the group `cfg`. -/
def State.withCfg (s : State) (v : CfgRec) : State := { s with cfg := v }

/-- Write the group `snap`. -/
def State.withSnap (s : State) (v : Snap) : State := { s with snap := v }

/-- Write the group `pend`. -/
def State.withPend (s : State) (v : Pend) : State := { s with pend := v }

/-- Write the group `work`. -/
def State.withWork (s : State) (v : Work) : State := { s with work := v }

/-- Write the group `inbox`. -/
def State.withInbox (s : State) (v : List Input) : State := { s with inbox := v }

/-- The working values of the tick. -/
def State.tgt (s : State) : Targets := s.work.tgt

/-- Write the working values of the tick. -/
def State.withTgt (s : State) (t : Targets) : State := s.withWork { s.work with tgt := t }

/-- The end of an atomic step: its local values are gone (rule R80, preamble of `46_assist_policies.md`). -/
def State.clearWork (s : State) : State := s.withWork Work.zero

/-- A refusal of the step when a condition fails, else the next state (`refuse` of rule R13). -/
def guarded (ok : Bool) (r : Refusal) (s : State) : Host.Outcome State Fault Refusal :=
  if ok then .next s else .refused r

/-- FAULT_GATE (rule R343), the block's counterpart of taking an exception (rule R388). Nothing is saved and nothing is
vectored: while a fault is active both targets are zeroed and the down period is the fastest. With NO_ERROR the targets pass
through, which is the counterpart of the return (rule R389): there is nothing to restore. -/
def faultGateTargets (p : Params) (sys : SysState) (t : Targets) : Targets :=
  match sys with
  | .noError => t
  | .motorBlocked | .torqueSensorFault | .commLost => { t with i := 0, dutyTgt := 0, down := p.rampDownMin }

/-- FAULT_GATE on the working values of the tick (rule R343). -/
def faultGate (s : State) : State := s.withTgt (faultGateTargets s.par s.ctl.systemState s.tgt)

end Sys2Proof.Machine
end

