-- ==== Sys2Proof/Machine/Operands.lean ====
section
/-! DEFINITION. How the rules read their operands: the table reads (`20_memory.md` rules R70, R74, R87), the effective
configuration (`10_state.md` rule R41), the code spaces (`30_encoding.md` rules R104, R109 to R113), and the values
the policies share (`46_assist_policies.md` rule R302). -/

namespace Sys2Proof.Machine

/-! ### Tables -/

/-- `TblRead(SVM_TABLE, idx)`: every u8 index is legal (rule R74). -/
def svmRead (t : SvmTable) (idx : U8) : Nat :=
  match t with
  | .fixture => svmTest idx.toNat
  | .given entries => (entries.get ⟨idx.toNat, idx.isLt⟩).toNat

/-- `TblRead(ASIN_TABLE, min(a, 127))`: the reader clamps its index (rules R74, R183). -/
def asinRead (t : AsinTable) (a : Nat) : Nat :=
  match t with
  | .fixture => asinTest (min a 127)
  | .given entries => (entries.get ⟨min a 127, by omega⟩).toNat

/-- `TblRead(EMTB_TABLE, curve, pos)` with both indices clamped by the reader (rules R74, R313). -/
def emtbRead (t : EmtbTable) (curve pos : Nat) : Nat :=
  match t with
  | .fixture => emtbTest (min curve 9) (min pos 240)
  | .given curves => ((curves.get ⟨min curve 9, by omega⟩).get ⟨min pos 240, by omega⟩).toNat

/-- `HALL_SECTOR` (rules R104, R131): `none` is NONE. -/
def hallSector (hall : U3) : Option (Fin 6) :=
  match hall.toNat with
  | 6 => some 0
  | 2 => some 1
  | 3 => some 2
  | 1 => some 3
  | 5 => some 4
  | 4 => some 5
  | _ => none

/-- `HALL_NEXT` (rules R104, R132): the forward successor of a valid pattern. -/
def hallNext (hall : U3) : Option U3 :=
  match hall.toNat with
  | 6 => some 2
  | 2 => some 3
  | 3 => some 1
  | 1 => some 5
  | 5 => some 4
  | 4 => some 6
  | _ => none

/-! ### Code spaces -/

/-- The riding mode a `CMD.mode` code latches (rules R109, R118): 6 to 255 are latched as OFF. -/
def modeOfCode (code : U8) : Mode :=
  match code.toNat with
  | 0 => .off
  | 1 => .powerAssist
  | 2 => .emtbAssist
  | 3 => .walkAssist
  | 4 => .cruise
  | 5 => .motorCalibration
  | _ => .off

/-- The code of `system_state`, which is also the fault code of the telemetry (rules R110, R381). -/
def sysCode (x : SysState) : U2 :=
  match x with
  | .noError => 0
  | .motorBlocked => 1
  | .torqueSensorFault => 2
  | .commLost => 3

/-! ### Motor-type and open functions -/

/-- `CAD_RPM_NUM` (rules R7, R250). -/
def cadRpmNum (p : Params) : Nat := (60 * p.pwmHz) / p.pasCyclesPerRev

/-- `FOC_K[motor_type]` (rule R181). -/
def focK (p : Params) (m : MotorType) : Nat :=
  match m with
  | .motorA => p.focKA
  | .motorB => p.focKB

/-- `CRUISE_KP[motor_type]` (rule R323). -/
def cruiseKp (p : Params) (m : MotorType) : Nat :=
  match m with
  | .motorA => p.cruiseKpA
  | .motorB => p.cruiseKpB

/-- `CRUISE_KI[motor_type]` (rule R323). -/
def cruiseKi (p : Params) (m : MotorType) : Nat :=
  match m with
  | .motorA => p.cruiseKiA
  | .motorB => p.cruiseKiB

/-- `FOC_ARG(motor_type, duty, ibat_filt, erps)` (rule R183). -/
def focArg (p : Params) (m : MotorType) (d i e : Nat) : Nat :=
  match p.focArg with
  | .reference => focArgRef (focK p m) d i e
  | .unknown k => Config.focArgOpen k m d i e

/-- `TEMP_FROM_ADC(adc_aux)` (rule R331). -/
def tempFromAdc (p : Params) (sample : Nat) : Nat :=
  match p.tempFromAdc with
  | .reference => tempFromAdcRef sample
  | .unknown k => Config.tempFromAdcOpen k sample

/-! ### Effective configuration (rule R41) -/

/-- `EFF.speed_max`. -/
def effSpeedMax (s : State) : Nat := if s.cmd.hasSpeedMax then s.cmd.speedMax.toNat else s.cfg.speedMax.toNat

/-- `EFF.aux_function`. -/
def effAuxFunction (s : State) : AuxFunction := if s.cmd.hasAuxFunction then s.cmd.auxFunction else s.cfg.auxFunction

/-- `EFF.i_max`. -/
def effIMax (s : State) : Nat := if s.cmd.hasIMax then s.cmd.iMax.toNat else s.cfg.iMax.toNat

/-- `EFF.power_max_w`. -/
def effPowerMaxW (s : State) : Nat := if s.cmd.hasPowerMax then s.cmd.powerMaxW.toNat else s.cfg.powerMaxW.toNat

/-- `EFF.fw_enabled = CFG.fw_enabled and CMD.flags[0]` (rules R41, R359). -/
def effFwEnabled (s : State) : Bool := s.cfg.fwEnabled && s.cmd.flags.getLsbD 0

/-! ### Values the policies share -/

/-- Power over the filtered battery voltage, in ADC steps of current, with `num` the power in the unit the rule scales
(rules R302, R307); zero at zero voltage. -/
def currentOfPower (p : Params) (num vbat : Nat) : Nat :=
  if vbat = 0 then 0 else num / (vbat * p.mvPerVstep * p.maPerIstep)

/-- `i_cap` (rule R302): the largest current target the tick may publish. -/
def iCap (s : State) : Nat :=
  min (min s.par.iAdcMax (effIMax s)) (currentOfPower s.par (effPowerMaxW s * 1000000) s.adc.vbatFilt.toNat)

/-- The values COMMON computes (rule R302), but for `i_cap`. -/
structure Common where
  speed : Nat
  stationary : Bool
  cad : Nat
  delta : Nat
  torque : Nat
  vbat : Nat
  fw : Nat
deriving DecidableEq, Repr

/-- COMMON (rule R302). -/
def common (s : State) : Common :=
  { speed := s.whl.wheelSpeedX10.toNat
    stationary := decide (s.whl.wheelSpeedX10.toNat = 0)
    cad := s.cad.cadenceRpm.toNat
    delta := s.tq.tqDelta.toNat
    torque := s.tq.torqueX100.toNat
    vbat := s.adc.vbatFilt.toNat
    fw := s.snap.fwAngle.toNat }

end Sys2Proof.Machine
end

