-- ==== Sys2Proof/Machine/Flags.lean ====
section
/-! DEFINITION. The conditions the rules test. The block has no arithmetic condition codes (`10_state.md` rule R36). -/

namespace Sys2Proof.Machine

/-- `HALL_ACCEPT(last, hall)` (rule R133): a valid pattern that differs from the last accepted one and is its forward
successor, or any valid pattern when none was accepted yet. Of patterns running backward the fifth in a row is that successor and is
accepted: the model's choice, after rule R133, where rule R134 (iii) says 'never' (DEDUCED, log entry 15). -/
def hallAccept (last hall : U3) : Bool :=
  (hallSector hall).isSome && decide (hall ≠ last) && (decide (last = 0) || decide (hallNext last = some hall))

/-- The stall condition (rule R140): strictly more than `STALL_TICKS` since the last accepted transition. -/
def stalled (p : Params) (raw : U16) : Bool := decide (p.stallTicks < raw.toNat)

/-- The derived motor phase current (rule R201). -/
def phaseCurrent (duty : U8) (ibatFilt : U16) : Nat :=
  if duty = 0 then 0 else (sat 16 ((ibatFilt.toNat * 256) / duty.toNat)).toNat

/-- The six trip conditions of rule R203, each by its name. -/
structure Trip where
  c1 : Bool
  c2 : Bool
  c3 : Bool
  c4 : Bool
  c5 : Bool
  c6 : Bool
deriving DecidableEq, Repr

/-- The trip conditions of a PWM cycle (rules R202, R203). -/
def trip (s : State) : Trip :=
  { c1 := decide (s.drive.dutyTarget.toNat < s.drive.duty.toNat)
    c2 := decide (s.drive.iTarget.toNat < s.adc.ibatFilt.toNat)
    c3 := decide (s.par.phaseIMax < phaseCurrent s.drive.duty s.adc.ibatFilt)
    c4 := decide (s.par.erpsMax < s.rotor.erps.toNat)
    c5 := decide (s.adc.vbatRaw.toNat < s.cfg.vbatCutoff.toNat)
    c6 := s.adc.brake }

/-- `trip`, the six bits of rule R202, c1 being bit 0. -/
def Trip.bits (t : Trip) : BitVec 6 :=
  BitVec.ofBool t.c6 ++ BitVec.ofBool t.c5 ++ BitVec.ofBool t.c4 ++ BitVec.ofBool t.c3 ++ BitVec.ofBool t.c2
    ++ BitVec.ofBool t.c1

/-- The period of a down step (rules R202, R204): a condition of `FORCE_FAST_MASK` forces `RAMP_DOWN_MIN`. -/
def downPeriod (s : State) : Nat :=
  if (trip s).bits &&& s.par.forceFastMask ≠ 0 then s.par.rampDownMin else s.drive.rampDownPeriod.toNat

/-- The condition of the field-weakening up-ramp (rules R202, R207). -/
def fwRampUp (s : State) : Bool :=
  decide (s.drive.duty.toNat = s.par.dutyMax) && s.drive.fwEnabled
    && decide (s.adc.ibatFilt.toNat < s.drive.iTarget.toNat)

/-- The three classes of rule R242. -/
inductive PasClass where
  | same
  | fwd
  | bwd
deriving DecidableEq, Repr

/-- The class of the pair (old state, new state) (rules R106, R242). -/
def pasClass (p : Params) (old new : U2) : PasClass :=
  if new = old then .same else if p.pasPrev new = old then .fwd else .bwd

/-- The blocked condition of a tick (rule R382). -/
def blockedNow (s : State) : Bool :=
  decide (s.par.mbIMin < s.snap.ibatFilt.toNat) && decide (s.snap.erps.toNat < s.par.mbErpsMax)

/-- The torque sensor fault (rules R383, R386). -/
def torqueFault (s : State) : Bool :=
  decide (s.ctl.mode = .powerAssist ∨ s.ctl.mode = .emtbAssist)
    && decide (s.tq.tqBootCnt.toNat = s.par.tqZeroTicks)
    && decide (s.tq.tqOffset.toNat < s.par.tqOffsetMin ∨ s.par.tqOffsetMax < s.tq.tqOffset.toNat
      ∨ s.tq.tqRaw.toNat < s.par.tqRawMin ∨ s.par.tqRawMax < s.tq.tqRaw.toNat)

/-- The loss of communication (rules R384, R386). -/
def commFault (s : State) : Bool := decide (s.par.commMissMax < s.asst.commMissed.toNat)

/-- The condition of the phase advance (rules R180, R182). -/
def focCond (s : State) : Bool :=
  decide (s.snap.duty.toNat < s.par.focDutyLow) || decide (s.snap.ibatFilt.toNat < s.par.focILow)
    || decide (s.snap.erps.toNat < s.par.focErpsBandLo) || decide (s.par.focErpsBandHi < s.snap.erps.toNat)

/-- Whether the arcsine computation is engaged (rules R180, R182). -/
def focEngaged (s : State) : Bool :=
  match s.par.focGateSense with
  | .engage => focCond s
  | .suppress => !focCond s

/-- PWM_GATE's condition to enable the output (rule R362). -/
def gateEnable (s : State) : Bool :=
  decide (s.rotor.erps.toNat < s.par.erpsEnableMax) && decide (s.drive.iTarget ≠ 0) && !s.adc.brake

/-- PWM_GATE's condition to disable the output (rule R362). -/
def gateDisable (s : State) : Bool :=
  decide (s.rotor.erps = 0) && decide (s.drive.iTarget = 0) && decide (s.drive.duty = 0)

end Sys2Proof.Machine
end

