-- ==== Sys2Proof/Machine/Cadence.lean ====
section
/-! DEFINITION. Cadence acquisition (`44_cadence_wheel_speed.md` section 1): CAD_STEP, CAD_RPM, and the rows of format `PAS4`. -/

namespace Sys2Proof.Machine

/-- A transition that is not forward (rule R243). -/
def cadBackward (c : CadenceState) : CadenceState := { c with cadTicks := 0, cadCounter := 0, cadRef := none }

/-- A valid forward transition into `pas` (rules R244 to R247). -/
def cadForward (p : Params) (pas : U2) (c : CadenceState) : CadenceState :=
  let c1 := { c with cadStopMin := sat 16 (c.cadStopMinAdj.toNat + p.cadSchmitt) }
  if c1.cadRef = some pas then { c1 with cadTicks := c1.cadCounter, cadCounter := 0 }
  else if c1.cadRef = none then { c1 with cadRef := some pas, cadCounter := 0 }
  else if c1.cadTicks = 0 then { c1 with cadTicks := sat 16 p.cadTicksStartup }
  else c1

/-- The handling of the transition, by the class of the pair (rules R241, R242). -/
def cadTransition (p : Params) (pas : U2) (c : CadenceState) : CadenceState :=
  match pasClass p c.pasOld pas with
  | .same => c
  | .fwd => { cadForward p pas c with cadStopCnt := 0, pasOld := pas }
  | .bwd => { cadBackward c with cadStopCnt := 0, pasOld := pas }

/-- The counters and the stop timeout, after the transition (rules R241, R248, R249). -/
def cadRun (c : CadenceState) : CadenceState :=
  let c1 := { c with cadStopCnt := sat 16 (c.cadStopCnt.toNat + 1) }
  if c1.cadStopMin < c1.cadStopCnt then { c1 with cadTicks := 0, cadStopCnt := 0, cadRef := none }
  else if c1.cadRef ≠ none then { c1 with cadCounter := sat 16 (c1.cadCounter.toNat + 1) }
  else c1

/-- CAD_STEP (rule R241). -/
def cadStep (pas : U2) (s : State) : State := s.withCad (cadRun (cadTransition s.par pas s.cad))

/-- CAD_STEP, by itself. -/
def execCadStep (pas : U2) (s : State) : Host.Outcome State Fault Refusal := .next (cadStep pas s)

/-- A row of format `PAS4` (rule R106): CAD_STEP on the new state, in a state whose `pas_old` is the row's old state; the pair
is `S.pas_old || pas`, so in any other state it is not this row (log entry 2). -/
def pasRow (old new : U2) (s : State) : Host.Outcome State Fault Refusal :=
  guarded (decide (s.cad.pasOld = old)) .codeNotHeld (cadStep new s)

/-- PAS.0_0.SAME (rule R106). -/
def execPas00Same (s : State) : Host.Outcome State Fault Refusal := pasRow 0 0 s

/-- PAS.0_1.BWD (rule R106). -/
def execPas01Bwd (s : State) : Host.Outcome State Fault Refusal := pasRow 0 1 s

/-- PAS.0_2.FWD (rule R106). -/
def execPas02Fwd (s : State) : Host.Outcome State Fault Refusal := pasRow 0 2 s

/-- PAS.0_3.BWD (rule R106). -/
def execPas03Bwd (s : State) : Host.Outcome State Fault Refusal := pasRow 0 3 s

/-- PAS.1_0.FWD (rule R106). -/
def execPas10Fwd (s : State) : Host.Outcome State Fault Refusal := pasRow 1 0 s

/-- PAS.1_1.SAME (rule R106). -/
def execPas11Same (s : State) : Host.Outcome State Fault Refusal := pasRow 1 1 s

/-- PAS.1_2.BWD (rule R106). -/
def execPas12Bwd (s : State) : Host.Outcome State Fault Refusal := pasRow 1 2 s

/-- PAS.1_3.BWD (rule R106). -/
def execPas13Bwd (s : State) : Host.Outcome State Fault Refusal := pasRow 1 3 s

/-- PAS.2_0.BWD (rule R106). -/
def execPas20Bwd (s : State) : Host.Outcome State Fault Refusal := pasRow 2 0 s

/-- PAS.2_1.BWD (rule R106). -/
def execPas21Bwd (s : State) : Host.Outcome State Fault Refusal := pasRow 2 1 s

/-- PAS.2_2.SAME (rule R106). -/
def execPas22Same (s : State) : Host.Outcome State Fault Refusal := pasRow 2 2 s

/-- PAS.2_3.FWD (rule R106). -/
def execPas23Fwd (s : State) : Host.Outcome State Fault Refusal := pasRow 2 3 s

/-- PAS.3_0.BWD (rule R106). -/
def execPas30Bwd (s : State) : Host.Outcome State Fault Refusal := pasRow 3 0 s

/-- PAS.3_1.FWD (rule R106). -/
def execPas31Fwd (s : State) : Host.Outcome State Fault Refusal := pasRow 3 1 s

/-- PAS.3_2.BWD (rule R106). -/
def execPas32Bwd (s : State) : Host.Outcome State Fault Refusal := pasRow 3 2 s

/-- PAS.3_3.SAME (rule R106). -/
def execPas33Same (s : State) : Host.Outcome State Fault Refusal := pasRow 3 3 s

/-- The cadence of a measured interval (rule R250). -/
def rpmOf (p : Params) (cadTicks : U16) : U8 :=
  if cadTicks = 0 then 0 else sat 8 (cadRpmNum p / cadTicks.toNat)

/-- The speed-adjusted stop timeout (rule R251). -/
def stopMinAdjOf (p : Params) (speed : U16) : U16 :=
  sat 16 (linMap speed.toNat p.cadAdjSpeedLo p.cadAdjSpeedHi p.cadStopTicksSlow p.cadStopTicksFast)

/-- CAD_RPM (rules R250, R251). -/
def cadRpm (s : State) : State :=
  (s.withCad { s.cad with cadenceRpm := rpmOf s.par s.snap.cadTicks }).withPend
    { s.pend with cadStopMinAdj := stopMinAdjOf s.par s.whl.wheelSpeedX10 }

/-- CAD_RPM, by itself. -/
def execCadRpm (s : State) : Host.Outcome State Fault Refusal := .next (cadRpm s)

end Sys2Proof.Machine
end

