-- ==== Sys2Proof/Machine/Faults.lean ====
section
/-! DEFINITION. The soft faults (`60_exceptions.md`): FAULT_DETECT, and the rows of format `SYS`. -/

namespace Sys2Proof.Machine

/-- The motor-blocked counters (rules R382, R386). -/
def mbUpdate (p : Params) (blocked : Bool) (a : AssistState) : AssistState :=
  if a.mbCooldown ≠ 0 then
    { a with
      mbCnt := 0
      mbCooldown := if blocked then sat 16 p.mbCooldownTicks else a.mbCooldown - 1 }
  else
    let c : U16 := if blocked then sat 16 (a.mbCnt.toNat + 1) else 0
    if p.mbTicks ≤ c.toNat then { a with mbCnt := 0, mbCooldown := sat 16 p.mbCooldownTicks }
    else { a with mbCnt := c }

/-- The one state reported (rules R385, R387): the lowest code whose condition holds. -/
def sysOf (fMb fTq fComm : Bool) : SysState :=
  if fMb then .motorBlocked else if fTq then .torqueSensorFault else if fComm then .commLost else .noError

/-- FAULT_DETECT (rule R386). -/
def faultDetect (s : State) : State :=
  let a := mbUpdate s.par (blockedNow s) s.asst
  (s.withAsst a).withCtl
    { s.ctl with systemState := sysOf (decide (a.mbCooldown ≠ 0)) (torqueFault s) (commFault s) }

/-- FAULT_DETECT, by itself. -/
def execFaultDetect (s : State) : Host.Outcome State Fault Refusal := .next (faultDetect s)

/-- What the system state selects: the gate of rule R343 and the fault code staged for the telemetry (rules R110, R364). -/
def sysSelects (s : State) : State :=
  (faultGate s).withPend { s.pend with tlm := { s.pend.tlm with faultCode := sysCode s.ctl.systemState } }

/-- A row of format `SYS`, in a state whose `system_state` holds its code (log entry 2). -/
def sysRow (x : SysState) (s : State) : Host.Outcome State Fault Refusal :=
  guarded (decide (s.ctl.systemState = x)) .codeNotHeld (sysSelects s)

/-- SYS.NO_ERROR (rules R110, R343). -/
def execSysNoError (s : State) : Host.Outcome State Fault Refusal := sysRow .noError s

/-- SYS.MOTOR_BLOCKED (rules R110, R343). -/
def execSysMotorBlocked (s : State) : Host.Outcome State Fault Refusal := sysRow .motorBlocked s

/-- SYS.TORQUE_SENSOR_FAULT (rules R110, R343). -/
def execSysTorqueSensorFault (s : State) : Host.Outcome State Fault Refusal := sysRow .torqueSensorFault s

/-- SYS.COMM_LOST (rules R110, R343). -/
def execSysCommLost (s : State) : Host.Outcome State Fault Refusal := sysRow .commLost s

end Sys2Proof.Machine
end

