-- ==== Sys2Proof/Machine/Limits.lean ====
section
/-! DEFINITION. The limiters and the global caps (`46_assist_policies.md` sections 8 and 9): POST_PROCESS, GLOBAL_CAPS, and the
rows of format `AUXF`. -/

namespace Sys2Proof.Machine

/-- THROTTLE on the working values (rule R328). -/
def throttleTargets (p : Params) (cap speed adcAux : Nat) (t : Targets) : Targets :=
  let iThr := linMap adcAux p.thrAdcMin p.thrAdcMax 0 cap
  if t.i < iThr then
    { i := iThr
      dutyTgt := p.dutyMax
      up := linMap speed p.thrSpeedLo p.thrSpeedHi p.thrRampUpLo p.thrRampUpHi
      down := p.thrRampDown }
  else t

/-- TEMPERATURE on the target current (rule R332). -/
def temperatureCurrent (cfg : CfgRec) (temp i : Nat) : Nat :=
  if cfg.tempMax ≤ cfg.tempMin then 0 else linMap temp cfg.tempMin.toNat cfg.tempMax.toNat i 0

/-- The branch of POST_PROCESS that the optional-ADC function selects (rules R327, R328, R331, R332). -/
def auxBranch (adcAux : U12) (s : State) : State :=
  match effAuxFunction s with
  | .throttle =>
    (s.withAsst { s.asst with auxValue := sat 16 (linMap adcAux.toNat s.par.thrAdcMin s.par.thrAdcMax 0 255) }).withTgt
      (throttleTargets s.par (iCap s) s.whl.wheelSpeedX10.toNat adcAux.toNat s.tgt)
  | .temperature =>
    (s.withAsst { s.asst with auxValue := sat 16 (tempFromAdc s.par adcAux.toNat) }).withTgt
      { s.tgt with i := temperatureCurrent s.cfg (tempFromAdc s.par adcAux.toNat) s.tgt.i }
  | .noFunction | .reserved => s.withAsst { s.asst with auxValue := 0 }

/-- SPEED_LIMIT on the target current (rule R336); `m` is `EFF.speed_max`. -/
def speedLimitCurrent (p : Params) (m speed i : Nat) : Nat :=
  if m ≤ 50 then linMap speed ((m - p.speedWin) * 10) ((m + p.speedWin) * 10) i 0
  else linMap (speed / 10) (m - p.speedWin) (m + p.speedWin) i 0

/-- SPEED_LIMIT (rule R336). -/
def speedLimit (s : State) : State :=
  s.withTgt { s.tgt with i := speedLimitCurrent s.par (effSpeedMax s) s.whl.wheelSpeedX10.toNat s.tgt.i }

/-- POST_PROCESS (rule R327). -/
def postProcess (adcAux : U12) (s : State) : State := speedLimit (auxBranch adcAux s)

/-- POST_PROCESS, by itself. -/
def execPostProcess (adcAux : U12) (s : State) : Host.Outcome State Fault Refusal :=
  guarded (adcOk s.par.adcAuxMaxSample adcAux) .adcAboveMaximum (postProcess adcAux s)

/-- RAMP_FLOOR on the up period (rule R342). -/
def rampUpFloor (p : Params) (cmd : CmdRec) (up : Nat) : Nat :=
  let u := clampNat up p.rampUpMin 255
  if cmd.hasAccel then u - ((u - p.rampUpMin) * min cmd.accel.toNat 100) / 100 else u

/-- The caps before the gate (rules R340 to R342). -/
def capTargets (p : Params) (cmd : CmdRec) (cap : Nat) (t : Targets) : Targets :=
  let i := min t.i cap
  { i := i
    dutyTgt := if i = 0 then 0 else min t.dutyTgt p.dutyMax
    up := rampUpFloor p cmd t.up
    down := clampNat t.down p.rampDownMin 255 }

/-- STAGE (rule R344). -/
def stage (s : State) : State :=
  s.withPend
    { s.pend with
      iTarget := sat 16 s.tgt.i
      dutyTarget := sat 8 s.tgt.dutyTgt
      rampUpPeriod := sat 8 s.tgt.up
      rampDownPeriod := sat 8 s.tgt.down }

/-- GLOBAL_CAPS (rule R340). -/
def globalCaps (s : State) : State := stage (faultGate (s.withTgt (capTargets s.par s.cmd (iCap s) s.tgt)))

/-- GLOBAL_CAPS, by itself. -/
def execGlobalCaps (s : State) : Host.Outcome State Fault Refusal := .next (globalCaps s)

/-- AUXF.NONE (rule R112), in a state whose effective function is that (log entry 2): neither branch runs. -/
def execAuxfNone (s : State) : Host.Outcome State Fault Refusal :=
  guarded (decide (effAuxFunction s = .noFunction)) .codeNotHeld (auxBranch 0 s)

/-- AUXF.THROTTLE (rules R112, R328), in a state whose effective function is that (log entry 2). -/
def execAuxfThrottle (adcAux : U12) (s : State) : Host.Outcome State Fault Refusal :=
  if adcOk s.par.adcAuxMaxSample adcAux then
    guarded (decide (effAuxFunction s = .throttle)) .codeNotHeld (auxBranch adcAux s)
  else .refused .adcAboveMaximum

/-- AUXF.TEMPERATURE (rules R112, R332), in a state whose effective function is that (log entry 2). -/
def execAuxfTemperature (adcAux : U12) (s : State) : Host.Outcome State Fault Refusal :=
  if adcOk s.par.adcAuxMaxSample adcAux then
    guarded (decide (effAuxFunction s = .temperature)) .codeNotHeld (auxBranch adcAux s)
  else .refused .adcAboveMaximum

/-- AUXF.RESERVED: 'a configuration or command carrying 3 is refused' (rule R112). -/
def execAuxfReserved (_ : State) : Host.Outcome State Fault Refusal := .refused .reservedAuxFunction

end Sys2Proof.Machine
end

