-- ==== Sys2Proof/Machine/Foc.lean ====
section
/-! DEFINITION. The FOC phase-advance filter (`42_foc_phase_advance.md`): FOC_UPDATE. -/

namespace Sys2Proof.Machine

/-- The target of the phase advance (rules R180, R183). -/
def focTarget (s : State) : Nat :=
  if focEngaged s then
    asinRead s.par.asinTable
      (focArg s.par s.cfg.motorType s.snap.duty.toNat s.snap.ibatFilt.toNat s.snap.erps.toNat)
  else 0

/-- FOC_UPDATE (rules R180, R184). -/
def focUpdate (s : State) : State :=
  let acc : U16 := sat 16 (lowPass s.par.focShift s.foc.focAcc.toNat (focTarget s))
  (s.withFoc { s.foc with focAcc := acc }).withPend { s.pend with focAngle := sat 8 (shr acc.toNat s.par.focShift) }

/-- FOC_UPDATE, by itself. -/
def execFocUpdate (s : State) : Host.Outcome State Fault Refusal := .next (focUpdate s)

end Sys2Proof.Machine
end

