-- ==== Sys2Proof/Machine/Policy.lean ====
section
/-! DEFINITION. The riding-mode assist policies (`46_assist_policies.md` sections 1 to 7): MODE_POLICY, and the rows of formats
`MODE` and `MTYPE`. -/

namespace Sys2Proof.Machine

/-- AWPR, assist without pedal rotation (rule R303): the cadence the policy uses. -/
def awpr (p : Params) (cfg : CfgRec) (c : Common) : Common :=
  if cfg.awprThreshold ≠ 0 ∧ c.stationary = true ∧ c.cad = 0 ∧ cfg.awprThreshold.toNat < c.delta then
    { c with cad := p.cadSynthRpm }
  else c

/-- FLOOR (rule R308). -/
def floorCurrent (cfg : CfgRec) (c : Common) (i : Nat) : Nat :=
  if (c.stationary = false ∨ 0 < c.cad) ∧ i < cfg.iMinFloor.toNat then cfg.iMinFloor.toNat else i

/-- DUTY_FOR_CURRENT (rule R310). -/
def dutyForCurrent (p : Params) (i : Nat) : Nat := if 0 < i then p.dutyMax else 0

/-- How the speed-derived and the cadence-derived period combine (rule R309). -/
def combine (rc : RampCombine) (a b : Nat) : Nat :=
  match rc with
  | .max => Nat.max a b
  | .min => Nat.min a b

/-- The up period of RAMP_RATES (rule R309). -/
def rampUpRate (p : Params) (cfg : CfgRec) (c : Common) : Nat :=
  combine p.rampCombine (linMap c.speed p.rampSpeedLo p.rampSpeedHi p.rampUpAtRest cfg.rampUpCap.toNat)
    (linMap c.cad p.rampCadLo p.rampCadHi p.rampUpAtRest cfg.rampUpCap.toNat)

/-- The down period of RAMP_RATES (rule R309). -/
def rampDownRate (p : Params) (cfg : CfgRec) (c : Common) : Nat :=
  combine p.rampCombine (linMap c.speed p.rampSpeedLo p.rampSpeedHi p.rampDownAtRest cfg.rampDownCap.toNat)
    (linMap c.cad p.rampCadLo p.rampCadHi p.rampDownAtRest cfg.rampDownCap.toNat)

/-- FLOOR, DUTY_FOR_CURRENT and RAMP_RATES on a policy's current (rules R308 to R310). -/
def currentTargets (p : Params) (cfg : CfgRec) (c : Common) (i : Nat) : Targets :=
  let i1 := floorCurrent cfg c i
  { i := i1, dutyTgt := dutyForCurrent p i1, up := rampUpRate p cfg c, down := rampDownRate p cfg c }

/-- OFF_POLICY (rule R301). -/
def offPolicy (p : Params) : Targets := { i := 0, dutyTgt := 0, up := p.rampUpDefault, down := p.rampDownDefault }

/-- The current POWER_ASSIST asks for before the floor (rules R304 to R307); `c` has the cadence of AWPR. -/
def powerCurrent (p : Params) (cfg : CfgRec) (c : Common) : Nat :=
  let soft := c.stationary && cfg.softStart
  let pm := if soft then cfg.powerMultSoft.toNat else cfg.powerMult.toNat
  let tm := if soft then cfg.torqueMultSoft.toNat else cfg.torqueMult.toNat
  let pPedalX10 := (c.torque * c.cad) / p.pedalPowerDiv
  let pAssistX10 := (pPedalX10 * pm) / p.powerMultDiv
  let i := currentOfPower p (pAssistX10 * 100000) c.vbat
  if cfg.hybrid then Nat.max i ((c.torque * tm) / p.torqueMultDiv) else i

/-- POWER_ASSIST (rule R304). -/
def powerAssist (p : Params) (cfg : CfgRec) (c : Common) : Targets :=
  let c1 := awpr p cfg c
  currentTargets p cfg c1 (powerCurrent p cfg c1)

/-- EMTB_ASSIST (rules R312, R313). -/
def emtbAssist (p : Params) (cfg : CfgRec) (modeParam : U8) (c : Common) : Targets :=
  currentTargets p cfg c (emtbRead p.emtbTable (clampNat modeParam.toNat 1 10 - 1) (min c.delta 240))

/-- WALK_ASSIST (rule R316). -/
def walkAssist (p : Params) (modeParam : U8) (c : Common) : Targets :=
  if c.speed < p.walkSpeedMaxX10 then
    { i := p.walkIMax, dutyTgt := min modeParam.toNat p.walkDutyMax, up := p.walkRampUp, down := p.walkRampDown }
  else { i := 0, dutyTgt := 0, up := p.walkRampUp, down := p.walkRampDown }

/-- The engagement and the received target of CRUISE (rules R320, R322). -/
def cruiseEngage (p : Params) (modeParam : U8) (speed : U16) (a : AssistState) : AssistState :=
  let a1 :=
    if a.cruiseActive then a
    else { a with cruiseActive := true, cruiseIntegral := satI32 p.cruiseISeed, cruiseTargetX10 := speed }
  if modeParam ≠ 0 then { a1 with cruiseTargetX10 := sat 16 (modeParam.toNat * 10) } else a1

/-- The speed error of CRUISE, signed (rule R321). -/
def cruiseErr (speed : U16) (a : AssistState) : Int := (a.cruiseTargetX10.toNat : Int) - speed.toNat

/-- The integral after its update (rules R320, R321). -/
def cruiseIntegrate (p : Params) (m : MotorType) (speed : U16) (a : AssistState) : BitVec 32 :=
  satI32 (clampInt (a.cruiseIntegral.toInt + Int.tdiv (cruiseKi p m * cruiseErr speed a) p.cruiseKiDiv) 0 p.cruiseILimit)

/-- The PID output (rules R320, R321); `a` has the updated integral. -/
def cruiseOut (p : Params) (m : MotorType) (speed : U16) (a : AssistState) : Nat :=
  (clampInt (cruiseKp p m * cruiseErr speed a + a.cruiseIntegral.toInt) 0 p.cruiseOutMax).toNat

/-- CRUISE (rule R320). -/
def cruisePolicy (s : State) : State :=
  let speed := s.whl.wheelSpeedX10
  if s.par.cruiseSpeedMinX10 < speed.toNat then
    let a1 := cruiseEngage s.par s.ctl.modeParam speed s.asst
    let a2 := { a1 with cruiseIntegral := cruiseIntegrate s.par s.cfg.motorType speed a1 }
    (s.withAsst a2).withTgt
      { i := effIMax s
        dutyTgt := linMap (cruiseOut s.par s.cfg.motorType speed a2) 0 s.par.cruiseOutMax 0 s.par.dutyMax
        up := s.par.cruiseRampUp
        down := s.par.cruiseRampDown }
  else
    (s.withAsst { s.asst with cruiseActive := false }).withTgt
      { i := 0, dutyTgt := 0, up := s.par.cruiseRampUp, down := s.par.cruiseRampDown }

/-- CALIBRATION (rule R325). -/
def calibration (p : Params) (modeParam : U8) : Targets :=
  { i := p.iAdcMax, dutyTgt := min modeParam.toNat p.calDutyMax, up := p.calRampUp, down := p.calRampDown }

/-- The policy of the latched riding mode (rules R300, R322): a mode other than CRUISE clears `cruise_active`. -/
def runPolicy (s : State) : State :=
  let c := common s
  let s0 := s.withAsst { s.asst with cruiseActive := false }
  match s.ctl.mode with
  | .off => s0.withTgt (offPolicy s.par)
  | .powerAssist => s0.withTgt (powerAssist s.par s.cfg c)
  | .emtbAssist => s0.withTgt (emtbAssist s.par s.cfg s.ctl.modeParam c)
  | .walkAssist => s0.withTgt (walkAssist s.par s.ctl.modeParam c)
  | .cruise => cruisePolicy s
  | .motorCalibration => s0.withTgt (calibration s.par s.ctl.modeParam)

/-- The current FW_BONUS adds (rule R326). -/
def fwBonusCurrent (s : State) : Nat :=
  let fw := s.snap.fwAngle.toNat
  if s.ctl.mode ≠ .motorCalibration ∧ effFwEnabled s = true ∧ s.par.fwBonusMinAngle < fw then
    (fw * s.par.fwBonusNum) / s.par.fwBonusDen
  else 0

/-- FW_BONUS (rule R326). -/
def fwBonus (s : State) : State := s.withTgt { s.tgt with i := s.tgt.i + fwBonusCurrent s }

/-- MODE_POLICY (rule R300). -/
def modePolicy (s : State) : State := fwBonus (runPolicy s)

/-- MODE_POLICY, by itself. -/
def execModePolicy (s : State) : Host.Outcome State Fault Refusal := .next (modePolicy s)

/-- A row of format `MODE` (rules R109, R118): the code is latched and the policy it selects runs (log entry 2). -/
def modeRow (code : U8) (s : State) : Host.Outcome State Fault Refusal :=
  .next (modePolicy (s.withCtl { s.ctl with mode := modeOfCode code }))

/-- MODE.OFF (rules R109, R301). -/
def execModeOff (s : State) : Host.Outcome State Fault Refusal := modeRow 0 s

/-- MODE.POWER_ASSIST (rules R109, R304). -/
def execModePowerAssist (s : State) : Host.Outcome State Fault Refusal := modeRow 1 s

/-- MODE.EMTB_ASSIST (rules R109, R312). -/
def execModeEmtbAssist (s : State) : Host.Outcome State Fault Refusal := modeRow 2 s

/-- MODE.WALK_ASSIST (rules R109, R316). -/
def execModeWalkAssist (s : State) : Host.Outcome State Fault Refusal := modeRow 3 s

/-- MODE.CRUISE (rules R109, R320). -/
def execModeCruise (s : State) : Host.Outcome State Fault Refusal := modeRow 4 s

/-- MODE.MOTOR_CALIBRATION (rules R109, R325). -/
def execModeMotorCalibration (s : State) : Host.Outcome State Fault Refusal := modeRow 5 s

/-- MODE.RESERVED: a code of 6 to 255 is latched as OFF (rule R118). -/
def execModeReserved (code : U8) (s : State) : Host.Outcome State Fault Refusal := modeRow code s

/-- What the motor type selects: the gains of CRUISE while that mode is latched (rule R323) and the constant of FOC_UPDATE
(rule R181), in the order of rule R103. -/
def motorTypeSelects (s : State) : State := focUpdate (if s.ctl.mode = .cruise then cruisePolicy s else s)

/-- MTYPE.MOTOR_A (rule R113), in a state whose configuration has that motor type (log entry 2). -/
def execMtypeMotorA (s : State) : Host.Outcome State Fault Refusal :=
  guarded (decide (s.cfg.motorType = .motorA)) .codeNotHeld (motorTypeSelects s)

/-- MTYPE.MOTOR_B (rule R113), in a state whose configuration has that motor type (log entry 2). -/
def execMtypeMotorB (s : State) : Host.Outcome State Fault Refusal :=
  guarded (decide (s.cfg.motorType = .motorB)) .codeNotHeld (motorTypeSelects s)

end Sys2Proof.Machine
end

