-- ==== Sys2Proof/Machine/Ramp.lean ====
section
/-! DEFINITION. The duty-cycle and current ramp controller (`43_ramp_controller.md`): RAMP_STEP. -/

namespace Sys2Proof.Machine

/-- One down step once the counter elapses (rule R205): the field-weakening offset first, else the duty cycle. -/
def stepDown (d : DriveState) : DriveState :=
  if d.fwAngle ≠ 0 then { d with fwAngle := d.fwAngle - 1 }
  else if d.duty ≠ 0 then { d with duty := d.duty - 1 }
  else d

/-- Direction DOWN (rules R202, R205, R208). -/
def rampDown (period : Nat) (d : DriveState) : DriveState :=
  let c := d.rampDownCnt.toNat + 1
  if period ≤ c then stepDown { d with rampUpCnt := 0, rampDownCnt := 0 }
  else { d with rampUpCnt := 0, rampDownCnt := sat 8 c }

/-- Direction UP with the value that one up step raises (rules R202, R206, R207, R208). -/
def rampUp (raise : DriveState → DriveState) (d : DriveState) : DriveState :=
  let c := d.rampUpCnt.toNat + 1
  if d.rampUpPeriod.toNat ≤ c then raise { d with rampDownCnt := 0, rampUpCnt := 0 }
  else { d with rampDownCnt := 0, rampUpCnt := sat 8 c }

/-- The up step of the duty cycle (rule R206). -/
def raiseDuty (d : DriveState) : DriveState := { d with duty := sat 8 (d.duty.toNat + 1) }

/-- The up step of the field-weakening offset (rule R207). -/
def raiseFw (fwMax : Nat) (d : DriveState) : DriveState :=
  if d.fwAngle.toNat < fwMax then { d with fwAngle := sat 8 (d.fwAngle.toNat + 1) } else d

/-- Direction HOLD (rule R208). -/
def rampHold (d : DriveState) : DriveState := { d with rampUpCnt := 0, rampDownCnt := 0 }

/-- RAMP_STEP (rule R202). -/
def rampStep (s : State) : State :=
  s.withDrive
    (if (trip s).bits ≠ 0 then rampDown (downPeriod s) s.drive
     else if s.drive.duty < s.drive.dutyTarget then rampUp raiseDuty s.drive
     else if fwRampUp s then rampUp (raiseFw s.par.fwMax) s.drive
     else rampHold s.drive)

/-- RAMP_STEP, by itself. -/
def execRampStep (s : State) : Host.Outcome State Fault Refusal := .next (rampStep s)

end Sys2Proof.Machine
end

