-- ==== Sys2Proof/Machine/Hall.lean ====
section
/-! DEFINITION. The Hall commutation state machine (`40_hall_commutation.md`): HALL_EDGE, STALL_CHECK, ERPS_DERIVE, and the rows
of format `HALL3`. -/

namespace Sys2Proof.Machine

/-- The revolution length and the mode switch of an accepted transition into sector `k` (rule R137); `r0` is the state
before the transition. -/
def hallRevolution (p : Params) (tick : U16) (k : Fin 6) (r0 r : RotorState) : RotorState :=
  if k.val = p.revSector then
    { (if r0.revRefValid then { r with revTicks := tickDiff tick r0.revRefTick, commMode := .interpolated } else r) with
      revRefTick := tick, revRefValid := true }
  else r

/-- The capture of an accepted transition with pattern `hall` into sector `k` (rules R130, R135, R136). -/
def hallCapture (cfg : CfgRec) (tick : U16) (hall : U3) (k : Fin 6) (r : RotorState) : RotorState :=
  { r with
    hallLast := hall
    sector := k
    sectorAngle := cfg.hallAngle.get k
    sectorOffset := cfg.hallOffset.get k
    calTicks := r.calTicks.set k.val (tickDiff tick r.hallRefTick) k.isLt
    hallRefTick := tick }

/-- The effect of HALL_EDGE on a configured block (rules R130, R133): a rejected event updates nothing at all. -/
def hallEdge (tick : U16) (hall : U3) (s : State) : State :=
  match hallSector hall with
  | none => s
  | some k =>
    if hallAccept s.rotor.hallLast hall then
      s.withRotor (hallRevolution s.par tick k s.rotor (hallCapture s.cfg tick hall k s.rotor))
    else s

/-- HALL_EDGE as an event (rules R130, R425). -/
def hallEdgeEvent (tick : U16) (hall : U3) (s : State) : Host.Outcome State Fault Refusal :=
  guarded s.asst.cfgValid .notConfigured (hallEdge tick hall s)

/-- HALL_EDGE (rule R130). -/
def execHallEdge (tick : U16) (hall : U3) (s : State) : Host.Outcome State Fault Refusal := hallEdgeEvent tick hall s

/-- HALL.S0: HALL_EDGE with pattern 0x6 (rule R104). -/
def execHallS0 (tick : U16) (s : State) : Host.Outcome State Fault Refusal := hallEdgeEvent tick 6 s

/-- HALL.S1: HALL_EDGE with pattern 0x2 (rule R104). -/
def execHallS1 (tick : U16) (s : State) : Host.Outcome State Fault Refusal := hallEdgeEvent tick 2 s

/-- HALL.S2: HALL_EDGE with pattern 0x3 (rule R104). -/
def execHallS2 (tick : U16) (s : State) : Host.Outcome State Fault Refusal := hallEdgeEvent tick 3 s

/-- HALL.S3: HALL_EDGE with pattern 0x1 (rule R104). -/
def execHallS3 (tick : U16) (s : State) : Host.Outcome State Fault Refusal := hallEdgeEvent tick 1 s

/-- HALL.S4: HALL_EDGE with pattern 0x5 (rule R104). -/
def execHallS4 (tick : U16) (s : State) : Host.Outcome State Fault Refusal := hallEdgeEvent tick 5 s

/-- HALL.S5: HALL_EDGE with pattern 0x4 (rule R104). -/
def execHallS5 (tick : U16) (s : State) : Host.Outcome State Fault Refusal := hallEdgeEvent tick 4 s

/-- HALL.INV0: HALL_EDGE with pattern 000, ignored (rule R105). -/
def execHallInv0 (tick : U16) (s : State) : Host.Outcome State Fault Refusal := hallEdgeEvent tick 0 s

/-- HALL.INV7: HALL_EDGE with pattern 111, ignored (rule R105). -/
def execHallInv7 (tick : U16) (s : State) : Host.Outcome State Fault Refusal := hallEdgeEvent tick 7 s

/-- What a stall writes (rules R22 (a), R140). -/
def declareStall (s : State) : State :=
  (s.withRotor { s.rotor with commMode := .blocked, revTicks := sat 16 s.par.revTicksInvalid, revRefValid := false }).withFoc
    { s.foc with focAngle := 0 }

/-- STALL_CHECK (rule R140). `raw` is passed on to INTERP. -/
def stallCheck (tick : U16) (s : State) : State :=
  let raw := tickDiff tick s.rotor.hallRefTick
  let s1 := s.withWork { s.work with raw := raw }
  if stalled s.par raw then declareStall s1 else s1

/-- STALL_CHECK, by itself. -/
def execStallCheck (tick : U16) (s : State) : Host.Outcome State Fault Refusal := .next (stallCheck tick s)

/-- The electrical speed (rule R142). -/
def erpsOf (p : Params) (r : RotorState) : U16 :=
  match r.commMode with
  | .blocked => 0
  | .interpolated => if r.revTicks = 0 then 0xFFFF else sat 16 (p.hallTickHz / r.revTicks.toNat)

/-- ERPS_DERIVE (rule R142). -/
def erpsDerive (s : State) : State := s.withRotor { s.rotor with erps := erpsOf s.par s.rotor }

/-- ERPS_DERIVE, by itself. -/
def execErpsDerive (s : State) : Host.Outcome State Fault Refusal := .next (erpsDerive s)

end Sys2Proof.Machine
end

