-- ==== Sys2Proof/Machine/Svm.lean ====
section
/-! DEFINITION. Rotor-angle interpolation and SVM synthesis (`41_svm_synthesis.md`): INTERP, SVM_SYNTH, CMP_COMMIT, the event
PWM_FALLING that they end (`47_system_operations.md` rule R352), and the rows of format `CMODE`. -/

namespace Sys2Proof.Machine

/-- The interpolation term (rule R161). -/
def interpOf (r : RotorState) (fwAngle : U8) (raw : U16) : U8 :=
  match r.commMode with
  | .blocked => 0
  | .interpolated =>
    let e : U16 := raw + r.sectorOffset.setWidth 16
    let q := if r.revTicks = 0 then 0 else (e.toNat * 256) / r.revTicks.toNat
    BitVec.ofNat 8 (q + fwAngle.toNat)

/-- INTERP (rule R161): the term is passed on to SVM_SYNTH. -/
def interp (s : State) : State :=
  s.withWork { s.work with interp := interpOf s.rotor s.drive.fwAngle s.work.raw }

/-- INTERP, by itself. -/
def execInterp (s : State) : Host.Outcome State Fault Refusal := .next (interp s)

/-- The index of phase B (rule R163). -/
def idxB (s : State) : U8 := s.rotor.sectorAngle + s.work.interp + s.foc.focAngle

/-- The index of phase A (rule R163). -/
def idxA (s : State) : U8 := idxB s + BitVec.ofNat 8 s.par.phaseAOffset

/-- The index of phase C (rule R163). -/
def idxC (s : State) : U8 := idxB s + BitVec.ofNat 8 s.par.phaseCOffset

/-- PHASE of a table value (rule R164). -/
def phaseOf (p : Params) (duty : U8) (t : Nat) : Nat :=
  if p.svmMid < t then p.pwmMid + shr ((t - p.svmMid) * duty.toNat) 8
  else p.pwmMid - shr ((p.svmMid - t) * duty.toNat) 8

/-- PHASE (rule R164). -/
def phase (s : State) (idx : U8) : U16 := sat 16 (phaseOf s.par s.drive.duty (svmRead s.par.svmTable idx))

/-- SVM_SYNTH (rule R165): the three new values are passed on to CMP_COMMIT. -/
def svmSynth (s : State) : State :=
  s.withWork { s.work with newA := phase s (idxA s), newB := phase s (idxB s), newC := phase s (idxC s) }

/-- SVM_SYNTH, by itself. -/
def execSvmSynth (s : State) : Host.Outcome State Fault Refusal := .next (svmSynth s)

/-- CMP_COMMIT (rules R76, R167). -/
def cmpCommit (s : State) : State :=
  s.withOut { s.out with cmpA := s.work.newA, cmpB := s.work.newB, cmpC := s.work.newC }

/-- CMP_COMMIT, by itself. -/
def execCmpCommit (s : State) : Host.Outcome State Fault Refusal := .next (cmpCommit s)

/-- The effect of PWM_FALLING on a configured block (rules R103, R352). -/
def pwmFalling (tick : U16) (s : State) : State :=
  (cmpCommit (svmSynth (interp (erpsDerive (stallCheck tick s))))).clearWork

/-- PWM_FALLING (rules R352, R425). -/
def execPwmFalling (tick : U16) (s : State) : Host.Outcome State Fault Refusal :=
  guarded s.asst.cfgValid .notConfigured (pwmFalling tick s)

/-- What the commutation mode selects: the electrical speed of rule R142 and the interpolation term of rule R161. -/
def commModeSelects (s : State) : State := interp (erpsDerive s)

/-- CMODE.BLOCKED (rule R111), in a state whose `comm_mode` is BLOCKED (log entry 2). -/
def execCmodeBlocked (s : State) : Host.Outcome State Fault Refusal :=
  guarded (decide (s.rotor.commMode = .blocked)) .codeNotHeld (commModeSelects s)

/-- CMODE.INTERPOLATED (rule R111), in a state whose `comm_mode` is INTERPOLATED (log entry 2). -/
def execCmodeInterpolated (s : State) : Host.Outcome State Fault Refusal :=
  guarded (decide (s.rotor.commMode = .interpolated)) .codeNotHeld (commModeSelects s)

end Sys2Proof.Machine
end

