-- ==== Sys2Proof/Machine/Torque.lean ====
section
/-! DEFINITION. Torque acquisition and linearization (`45_torque.md`): TQ_ACQUIRE with LINEARIZE. -/

namespace Sys2Proof.Machine

/-- LINEARIZE from the point (px, py) over the points that follow it (rule R286). -/
def linearizeFrom (delta px py : Nat) : List LinPoint → Nat
  | [] => py
  | pt :: rest =>
    if delta ≤ pt.x.toNat then py + ((delta - px) * (pt.y.toNat - py)) / (pt.x.toNat - px)
    else linearizeFrom delta pt.x.toNat pt.y.toNat rest

/-- LINEARIZE (rule R286): the first segment starts at the origin. -/
def linearize (cfg : CfgRec) (delta : Nat) : Nat := linearizeFrom delta 0 0 cfg.tqLin.toList

/-- The output torque of a delta (rules R281, R285, R287). -/
def torqueOf (p : Params) (cfg : CfgRec) (delta : Nat) : U16 :=
  if cfg.tqLinEnabled then sat 16 ((linearize cfg delta * p.tqWToX100Num) / p.tqWToX100Den)
  else sat 16 (delta * cfg.tqPerStepX100.toNat)

/-- One tick of the self-zeroing window (rules R281 to R283). -/
def tqWindow (p : Params) (adcTorque : Nat) (t : TorqueState) : TorqueState :=
  let acc : U32 := sat 32 (lowPass p.tqOffShift t.tqOffAcc.toNat adcTorque)
  let offset : U16 := sat 16 (shr acc.toNat p.tqOffShift)
  let boot : U16 := sat 16 (t.tqBootCnt.toNat + 1)
  { tqRaw := sat 16 adcTorque
    tqOffAcc := acc
    tqOffset :=
      if boot.toNat = p.tqZeroTicks then sat 16 (clampInt (offset.toNat + p.tqCalBias) 0 65535).toNat else offset
    tqBootCnt := boot
    tqDelta := 0
    torqueX100 := 0 }

/-- One tick after the window (rules R281, R284). -/
def tqMeasure (p : Params) (cfg : CfgRec) (adcTorque : Nat) (t : TorqueState) : TorqueState :=
  let delta := adcTorque - t.tqOffset.toNat
  { t with tqRaw := sat 16 adcTorque, tqDelta := sat 16 delta, torqueX100 := torqueOf p cfg delta }

/-- TQ_ACQUIRE (rule R281). -/
def tqAcquire (adcTorque : U12) (s : State) : State :=
  s.withTq
    (if s.tq.tqBootCnt.toNat < s.par.tqZeroTicks then tqWindow s.par adcTorque.toNat s.tq
     else tqMeasure s.par s.cfg adcTorque.toNat s.tq)

/-- TQ_ACQUIRE, by itself. -/
def execTqAcquire (adcTorque : U12) (s : State) : Host.Outcome State Fault Refusal :=
  guarded (adcOk s.par.adcTMaxSample adcTorque) .adcAboveMaximum (tqAcquire adcTorque s)

end Sys2Proof.Machine
end

