-- ==== Sys2Proof/Machine/Wheel.lean ====
section
/-! DEFINITION. Wheel-speed acquisition (`44_cadence_wheel_speed.md` section 2): WHL_STEP, WHL_SPEED. -/

namespace Sys2Proof.Machine

/-- A rising edge (rules R261 to R263, R266). -/
def whlRising (p : Params) (w : WheelState) : WheelState :=
  if !w.whlStarted then { w with whlStarted := true, whlCounter := 0 }
  else if p.whlTicksMin ≤ w.whlCounter.toNat then
    { w with whlTicks := w.whlCounter, whlCounter := 0, whlTotal := w.whlTotal + 1 }
  else w

/-- The change of the pin level (rule R261). -/
def whlEdge (p : Params) (pin : Bool) (w : WheelState) : WheelState :=
  if pin = w.whlPinOld then w
  else if pin then whlRising p { w with whlPinOld := pin }
  else { w with whlPinOld := pin }

/-- The counter, and the stop when it has reached `WHL_TICKS_MAX` (rules R261, R264). -/
def whlRun (p : Params) (w : WheelState) : WheelState :=
  if !w.whlStarted then w
  else if w.whlCounter.toNat < p.whlTicksMax then { w with whlCounter := sat 16 (w.whlCounter.toNat + 1) }
  else { w with whlTicks := 0, whlCounter := 0, whlStarted := false }

/-- WHL_STEP (rule R261). -/
def whlStep (pin : Bool) (s : State) : State := s.withWhl (whlRun s.par (whlEdge s.par pin s.whl))

/-- WHL_STEP, by itself. -/
def execWhlStep (pin : Bool) (s : State) : Host.Outcome State Fault Refusal := .next (whlStep pin s)

/-- The wheel speed of an accepted interval, units x10 (rule R265). -/
def speedOf (p : Params) (perimeterMm whlTicks : U16) : U16 :=
  if whlTicks = 0 then 0 else sat 16 ((perimeterMm.toNat * p.pwmHz * 36) / (whlTicks.toNat * 1000))

/-- WHL_SPEED (rule R265). -/
def whlSpeed (s : State) : State :=
  s.withWhl { s.whl with wheelSpeedX10 := speedOf s.par s.cfg.wheelPerimeterMm s.snap.whlTicks }

/-- WHL_SPEED, by itself. -/
def execWhlSpeed (s : State) : Host.Outcome State Fault Refusal := .next (whlSpeed s)

end Sys2Proof.Machine
end

