-- ==== Sys2Proof/Machine/System.lean ====
section
/-! DEFINITION. The system operations (`47_system_operations.md`, `70_reset_and_hazards.md` rule R420): RESET, CFG_LOAD, CMD_RX,
the filters, the snapshot and the publish, the PWM output gate, the telemetry, and the events PWM_RISING, TICK_BEGIN and
TICK_END that compose the components. -/

namespace Sys2Proof.Machine

/-! ### RESET, configuration and command intake -/

/-- RESET (rule R420): every register at its reset value; `CFG` is unspecified, a free value (log entry 5). The parameter set and
what the environment is yet to deliver are not the block's registers. -/
def resetState (s : State) : State := State.resetWith s.par (Config.freeCfg s.freeCount) s.inbox (s.freeCount + 1)

/-- RESET. -/
def execReset (s : State) : Host.Outcome State Fault Refusal := .next (resetState s)

/-- Every override of the command is withdrawn (rule R353). -/
def withdrawOverrides (c : CmdRec) : CmdRec :=
  { c with hasSpeedMax := false, hasAuxFunction := false, hasIMax := false, hasPowerMax := false, hasAccel := false }

/-- The effect of CFG_LOAD with a legal record (rule R353). -/
def cfgLoad (r : CfgRec) (s : State) : State :=
  ((s.withCfg r).withAsst { s.asst with cfgValid := true }).withCmd (withdrawOverrides s.cmd)

/-- CFG_LOAD (rule R353). -/
def execCfgLoad (r : CfgRec) (s : State) : Host.Outcome State Fault Refusal :=
  guarded r.legal .illegalConfiguration (cfgLoad r s)

/-- The effect of CMD_RX with a legal record (rule R354): the mailbox holds the later record. -/
def cmdRx (r : CmdRec) (s : State) : State := (s.withCmdIn r).withAsst { s.asst with cmdPending := true }

/-- CMD_RX (rule R354). -/
def execCmdRx (r : CmdRec) (s : State) : Host.Outcome State Fault Refusal :=
  if s.asst.cfgValid then guarded r.legal .reservedAuxFunction (cmdRx r s) else .refused .notConfigured

/-! ### PWM_RISING -/

/-- IBAT_FILTER (rule R360). -/
def ibatFilter (adcIbat : U12) (s : State) : State :=
  let acc : U16 := sat 16 (lowPass s.par.iShift s.adc.ibatAcc.toNat adcIbat.toNat)
  s.withAdc { s.adc with ibatAcc := acc, ibatFilt := sat 16 (shr acc.toNat s.par.iShift) }

/-- IBAT_FILTER, by itself. -/
def execIbatFilter (adcIbat : U12) (s : State) : Host.Outcome State Fault Refusal :=
  guarded (adcOk s.par.adcIMaxSample adcIbat) .adcAboveMaximum (ibatFilter adcIbat s)

/-- PIN_LATCH (rule R351). -/
def pinLatch (adcVbat : U12) (brake : Bool) (s : State) : State :=
  s.withAdc { s.adc with vbatRaw := adcVbat.setWidth 16, brake := brake }

/-- PIN_LATCH, by itself. -/
def execPinLatch (adcVbat : U12) (brake : Bool) (s : State) : Host.Outcome State Fault Refusal :=
  guarded (adcOk s.par.adcVMaxSample adcVbat) .adcAboveMaximum (pinLatch adcVbat brake s)

/-- The effect of PWM_RISING on a configured block (rules R103, R351). -/
def pwmRising (adcVbat adcIbat : U12) (brake whl : Bool) (pas : U2) (s : State) : State :=
  rampStep (whlStep whl (cadStep pas (pinLatch adcVbat brake (ibatFilter adcIbat s))))

/-- PWM_RISING (rules R351, R425, R435). -/
def execPwmRising (adcVbat adcIbat : U12) (brake whl : Bool) (pas : U2) (s : State) : Host.Outcome State Fault Refusal :=
  if s.asst.cfgValid then
    guarded (adcOk s.par.adcVMaxSample adcVbat && adcOk s.par.adcIMaxSample adcIbat) .adcAboveMaximum
      (pwmRising adcVbat adcIbat brake whl pas s)
  else .refused .notConfigured

/-! ### TICK_BEGIN -/

/-- The fields of `CMD` that CMD_LATCH writes (rules R39, R355): the flags every time, an optional field when present. -/
def latchRecord (new old : CmdRec) : CmdRec :=
  { old with
    flags := new.flags
    hasSpeedMax := new.hasSpeedMax || old.hasSpeedMax
    speedMax := if new.hasSpeedMax then new.speedMax else old.speedMax
    hasAuxFunction := new.hasAuxFunction || old.hasAuxFunction
    auxFunction := if new.hasAuxFunction then new.auxFunction else old.auxFunction
    hasIMax := new.hasIMax || old.hasIMax
    iMax := if new.hasIMax then new.iMax else old.iMax
    hasPowerMax := new.hasPowerMax || old.hasPowerMax
    powerMaxW := if new.hasPowerMax then new.powerMaxW else old.powerMaxW
    hasAccel := new.hasAccel || old.hasAccel
    accel := if new.hasAccel then new.accel else old.accel }

/-- Taking the command of the mailbox, or counting a missed one (rules R355, R384). -/
def takeCommand (s : State) : State :=
  if s.asst.cmdPending then
    ((s.withAsst { s.asst with cmdPending := false, commMissed := 0 }).withCtl
      { s.ctl with mode := modeOfCode s.cmdIn.mode, modeParam := s.cmdIn.modeParam }).withCmd
      (latchRecord s.cmdIn s.cmd)
  else s.withAsst { s.asst with commMissed := sat 8 (s.asst.commMissed.toNat + 1) }

/-- CMD_LATCH (rules R355, R359): the enable of field weakening is staged from the latched command. -/
def cmdLatch (s : State) : State :=
  let s1 := takeCommand s
  s1.withPend { s1.pend with fwEnabled := effFwEnabled s1 }

/-- CMD_LATCH, by itself. -/
def execCmdLatch (s : State) : Host.Outcome State Fault Refusal := .next (cmdLatch s)

/-- SNAPSHOT (rule R356). -/
def snapshot (s : State) : State :=
  s.withSnap
    { duty := s.drive.duty, fwAngle := s.drive.fwAngle, ibatFilt := s.adc.ibatFilt, vbatRaw := s.adc.vbatRaw,
      brake := s.adc.brake, erps := s.rotor.erps, cadTicks := s.cad.cadTicks, whlTicks := s.whl.whlTicks,
      whlTotal := s.whl.whlTotal, calTicks := s.rotor.calTicks }

/-- SNAPSHOT, by itself. -/
def execSnapshot (s : State) : Host.Outcome State Fault Refusal := .next (snapshot s)

/-- VBAT_FILTER (rule R361). -/
def vbatFilter (s : State) : State :=
  let acc : U32 := sat 32 (lowPass s.par.vShift s.adc.vbatAcc.toNat s.snap.vbatRaw.toNat)
  s.withAdc { s.adc with vbatAcc := acc, vbatFilt := sat 16 (shr acc.toNat s.par.vShift) }

/-- VBAT_FILTER, by itself. -/
def execVbatFilter (s : State) : Host.Outcome State Fault Refusal := .next (vbatFilter s)

/-- The telemetry record of a tick (rule R364). -/
def telemetryOf (adcAux : U12) (s : State) : Telemetry :=
  let hasCal := decide (s.ctl.mode = .motorCalibration)
  { vbatFilt := s.adc.vbatFilt
    ibatFilt := s.snap.ibatFilt
    wheelSpeedX10 := s.whl.wheelSpeedX10
    brake := s.snap.brake
    auxRaw := adcAux.setWidth 16
    auxValue := s.asst.auxValue
    cadenceRpm := s.cad.cadenceRpm
    dutyPct := sat 8 ((s.snap.duty.toNat * 100) / s.par.dutyMax)
    erps := s.snap.erps
    focAngle := s.pend.focAngle
    faultCode := sysCode s.ctl.systemState
    whlTotal := s.snap.whlTotal
    torqueX100 := s.tq.torqueX100
    hasCal := hasCal
    calTicks := if hasCal then s.snap.calTicks else zeroTicks }

/-- TELEMETRY_STAGE (rule R364). -/
def telemetryStage (adcAux : U12) (s : State) : State := s.withPend { s.pend with tlm := telemetryOf adcAux s }

/-- TELEMETRY_STAGE, by itself. -/
def execTelemetryStage (adcAux : U12) (s : State) : Host.Outcome State Fault Refusal :=
  guarded (adcOk s.par.adcAuxMaxSample adcAux) .adcAboveMaximum (telemetryStage adcAux s)

/-- The measurements of a tick, in the order of rule R103: sub-operations 1 to 6. -/
def tickMeasure (adcTorque : U12) (s : State) : State :=
  tqAcquire adcTorque (cadRpm (whlSpeed (vbatFilter (snapshot (cmdLatch s)))))

/-- The decisions of a tick, in the order of rule R103: sub-operations 7 to 12. -/
def tickDecide (adcAux : U12) (s : State) : State :=
  telemetryStage adcAux (focUpdate (globalCaps (postProcess adcAux (modePolicy (faultDetect s)))))

/-- The effect of TICK_BEGIN (rules R103, R355). -/
def tickBegin (adcAux adcTorque : U12) (s : State) : State :=
  (tickDecide adcAux (tickMeasure adcTorque (s.withAsst { s.asst with tickOpen := true }))).clearWork

/-- TICK_BEGIN (rules R355, R425, R434, R435). -/
def execTickBegin (adcAux adcTorque : U12) (s : State) : Host.Outcome State Fault Refusal :=
  if s.asst.cfgValid then
    if s.asst.tickOpen then .refused .tickAlreadyOpen
    else
      guarded (adcOk s.par.adcAuxMaxSample adcAux && adcOk s.par.adcTMaxSample adcTorque) .adcAboveMaximum
        (tickBegin adcAux adcTorque s)
  else .refused .notConfigured

/-! ### TICK_END -/

/-- PUBLISH (rule R358). -/
def publish (s : State) : State :=
  ((s.withDrive
      { s.drive with
        iTarget := s.pend.iTarget
        dutyTarget := s.pend.dutyTarget
        rampUpPeriod := s.pend.rampUpPeriod
        rampDownPeriod := s.pend.rampDownPeriod
        fwEnabled := s.pend.fwEnabled }).withFoc { s.foc with focAngle := s.pend.focAngle }).withCad
    { s.cad with cadStopMinAdj := s.pend.cadStopMinAdj }

/-- PUBLISH, by itself. -/
def execPublish (s : State) : Host.Outcome State Fault Refusal := .next (publish s)

/-- What the re-enable of the output writes (rule R362). -/
def driveOnEnable (p : Params) (d : DriveState) : DriveState :=
  { d with
    duty := sat 8 p.dutyStartup
    fwAngle := 0
    rampUpPeriod := sat 8 p.rampUpMin
    rampDownPeriod := sat 8 p.rampDownMin
    rampUpCnt := 0
    rampDownCnt := 0 }

/-- PWM_GATE (rule R362). -/
def pwmGate (s : State) : State :=
  if !s.out.pwmEnabled then
    if gateEnable s then (s.withOut { s.out with pwmEnabled := true }).withDrive (driveOnEnable s.par s.drive) else s
  else if gateDisable s then s.withOut { s.out with pwmEnabled := false }
  else s

/-- PWM_GATE, by itself. -/
def execPwmGate (s : State) : Host.Outcome State Fault Refusal := .next (pwmGate s)

/-- The end of a tick (rule R358): the telemetry goes out and the tick is closed. -/
def closeTick (s : State) : State :=
  (s.withOut { s.out with tlm := s.pend.tlm }).withAsst { s.asst with tickOpen := false }

/-- TICK_END (rules R358, R425, R434). -/
def execTickEnd (s : State) : Host.Outcome State Fault Refusal :=
  if s.asst.cfgValid then guarded s.asst.tickOpen .tickNotOpen (closeTick (pwmGate (publish s)))
  else .refused .notConfigured

/-! ### Reserved event codes -/

/-- EV.RESERVED: event codes 0x8 to 0xF 'are not events of this block: the step is refused' (rule R117). -/
def execEvReserved (_ : BitVec 31) (_ : State) : Host.Outcome State Fault Refusal := .refused .reservedEventCode

end Sys2Proof.Machine
end

