-- ==== Sys2Proof/Machine/Dispatch.lean ====
section
/-! DEFINITION. One arm per row of the opcode table: each calls that row's own meaning. -/

namespace Sys2Proof.Machine

def exec (i : Instr) (s : State) : Host.Outcome State Fault Refusal :=
  match i with
  | .reset => Sys2Proof.Machine.execReset s
  | .cfgLoad record => Sys2Proof.Machine.execCfgLoad record s
  | .cmdRx record => Sys2Proof.Machine.execCmdRx record s
  | .hallEdge tick hall => Sys2Proof.Machine.execHallEdge tick hall s
  | .pwmRising adcVbat adcIbat brake whl pas => Sys2Proof.Machine.execPwmRising adcVbat adcIbat brake whl pas s
  | .pwmFalling tick => Sys2Proof.Machine.execPwmFalling tick s
  | .tickBegin adcAux adcTorque => Sys2Proof.Machine.execTickBegin adcAux adcTorque s
  | .tickEnd => Sys2Proof.Machine.execTickEnd s
  | .evReserved low => Sys2Proof.Machine.execEvReserved low s
  | .ibatFilter adcIbat => Sys2Proof.Machine.execIbatFilter adcIbat s
  | .pinLatch adcVbat brake => Sys2Proof.Machine.execPinLatch adcVbat brake s
  | .cadStep pas => Sys2Proof.Machine.execCadStep pas s
  | .whlStep whl => Sys2Proof.Machine.execWhlStep whl s
  | .rampStep => Sys2Proof.Machine.execRampStep s
  | .stallCheck tick => Sys2Proof.Machine.execStallCheck tick s
  | .erpsDerive => Sys2Proof.Machine.execErpsDerive s
  | .interp => Sys2Proof.Machine.execInterp s
  | .svmSynth => Sys2Proof.Machine.execSvmSynth s
  | .cmpCommit => Sys2Proof.Machine.execCmpCommit s
  | .cmdLatch => Sys2Proof.Machine.execCmdLatch s
  | .snapshot => Sys2Proof.Machine.execSnapshot s
  | .vbatFilter => Sys2Proof.Machine.execVbatFilter s
  | .whlSpeed => Sys2Proof.Machine.execWhlSpeed s
  | .cadRpm => Sys2Proof.Machine.execCadRpm s
  | .tqAcquire adcTorque => Sys2Proof.Machine.execTqAcquire adcTorque s
  | .faultDetect => Sys2Proof.Machine.execFaultDetect s
  | .modePolicy => Sys2Proof.Machine.execModePolicy s
  | .postProcess adcAux => Sys2Proof.Machine.execPostProcess adcAux s
  | .globalCaps => Sys2Proof.Machine.execGlobalCaps s
  | .focUpdate => Sys2Proof.Machine.execFocUpdate s
  | .telemetryStage adcAux => Sys2Proof.Machine.execTelemetryStage adcAux s
  | .publish => Sys2Proof.Machine.execPublish s
  | .pwmGate => Sys2Proof.Machine.execPwmGate s
  | .hallS0 tick => Sys2Proof.Machine.execHallS0 tick s
  | .hallS1 tick => Sys2Proof.Machine.execHallS1 tick s
  | .hallS2 tick => Sys2Proof.Machine.execHallS2 tick s
  | .hallS3 tick => Sys2Proof.Machine.execHallS3 tick s
  | .hallS4 tick => Sys2Proof.Machine.execHallS4 tick s
  | .hallS5 tick => Sys2Proof.Machine.execHallS5 tick s
  | .hallInv0 tick => Sys2Proof.Machine.execHallInv0 tick s
  | .hallInv7 tick => Sys2Proof.Machine.execHallInv7 tick s
  | .pas00Same => Sys2Proof.Machine.execPas00Same s
  | .pas01Bwd => Sys2Proof.Machine.execPas01Bwd s
  | .pas02Fwd => Sys2Proof.Machine.execPas02Fwd s
  | .pas03Bwd => Sys2Proof.Machine.execPas03Bwd s
  | .pas10Fwd => Sys2Proof.Machine.execPas10Fwd s
  | .pas11Same => Sys2Proof.Machine.execPas11Same s
  | .pas12Bwd => Sys2Proof.Machine.execPas12Bwd s
  | .pas13Bwd => Sys2Proof.Machine.execPas13Bwd s
  | .pas20Bwd => Sys2Proof.Machine.execPas20Bwd s
  | .pas21Bwd => Sys2Proof.Machine.execPas21Bwd s
  | .pas22Same => Sys2Proof.Machine.execPas22Same s
  | .pas23Fwd => Sys2Proof.Machine.execPas23Fwd s
  | .pas30Bwd => Sys2Proof.Machine.execPas30Bwd s
  | .pas31Fwd => Sys2Proof.Machine.execPas31Fwd s
  | .pas32Bwd => Sys2Proof.Machine.execPas32Bwd s
  | .pas33Same => Sys2Proof.Machine.execPas33Same s
  | .modeOff => Sys2Proof.Machine.execModeOff s
  | .modePowerAssist => Sys2Proof.Machine.execModePowerAssist s
  | .modeEmtbAssist => Sys2Proof.Machine.execModeEmtbAssist s
  | .modeWalkAssist => Sys2Proof.Machine.execModeWalkAssist s
  | .modeCruise => Sys2Proof.Machine.execModeCruise s
  | .modeMotorCalibration => Sys2Proof.Machine.execModeMotorCalibration s
  | .modeReserved code => Sys2Proof.Machine.execModeReserved code s
  | .sysNoError => Sys2Proof.Machine.execSysNoError s
  | .sysMotorBlocked => Sys2Proof.Machine.execSysMotorBlocked s
  | .sysTorqueSensorFault => Sys2Proof.Machine.execSysTorqueSensorFault s
  | .sysCommLost => Sys2Proof.Machine.execSysCommLost s
  | .cmodeBlocked => Sys2Proof.Machine.execCmodeBlocked s
  | .cmodeInterpolated => Sys2Proof.Machine.execCmodeInterpolated s
  | .auxfNone => Sys2Proof.Machine.execAuxfNone s
  | .auxfThrottle adcAux => Sys2Proof.Machine.execAuxfThrottle adcAux s
  | .auxfTemperature adcAux => Sys2Proof.Machine.execAuxfTemperature adcAux s
  | .auxfReserved => Sys2Proof.Machine.execAuxfReserved s
  | .mtypeMotorA => Sys2Proof.Machine.execMtypeMotorA s
  | .mtypeMotorB => Sys2Proof.Machine.execMtypeMotorB s

end Sys2Proof.Machine
end

