-- ==== Sys2Proof/WellFormed.lean ====
section
/-! DEFINITION. Well-formed instructions: an event the environment may send under a given parameter set (`00_scope.md`
rule R8, `30_encoding.md` rules R102, R117, `70_reset_and_hazards.md` rule R435). -/

namespace Sys2Proof

/-- The operands of the instruction are ones its encoding admits and the environment may send: ADC operands within
their maxima, records within their legal ranges, a reserved riding-mode code really one of 6 to 255, and no reserved
event code or reserved optional-ADC function. -/
def Instr.wf (p : Params) : Instr → Bool
  | .cfgLoad r => r.legal
  | .cmdRx r => r.legal
  | .pwmRising v i _ _ _ => Machine.adcOk p.adcVMaxSample v && Machine.adcOk p.adcIMaxSample i
  | .tickBegin x q => Machine.adcOk p.adcAuxMaxSample x && Machine.adcOk p.adcTMaxSample q
  | .evReserved _ => false
  | .ibatFilter i => Machine.adcOk p.adcIMaxSample i
  | .pinLatch v _ => Machine.adcOk p.adcVMaxSample v
  | .tqAcquire q => Machine.adcOk p.adcTMaxSample q
  | .postProcess x => Machine.adcOk p.adcAuxMaxSample x
  | .telemetryStage x => Machine.adcOk p.adcAuxMaxSample x
  | .auxfThrottle x => Machine.adcOk p.adcAuxMaxSample x
  | .auxfTemperature x => Machine.adcOk p.adcAuxMaxSample x
  | .auxfReserved => false
  | .modeReserved c => 6 ≤ c.toNat
  | .reset | .hallEdge _ _ | .pwmFalling _ | .tickEnd | .cadStep _ | .whlStep _ | .rampStep | .stallCheck _
  | .erpsDerive | .interp | .svmSynth | .cmpCommit | .cmdLatch | .snapshot | .vbatFilter | .whlSpeed | .cadRpm
  | .faultDetect | .modePolicy | .globalCaps | .focUpdate | .publish | .pwmGate
  | .hallS0 _ | .hallS1 _ | .hallS2 _ | .hallS3 _ | .hallS4 _ | .hallS5 _ | .hallInv0 _ | .hallInv7 _
  | .pas00Same | .pas01Bwd | .pas02Fwd | .pas03Bwd | .pas10Fwd | .pas11Same | .pas12Bwd | .pas13Bwd
  | .pas20Bwd | .pas21Bwd | .pas22Same | .pas23Fwd | .pas30Bwd | .pas31Fwd | .pas32Bwd | .pas33Same
  | .modeOff | .modePowerAssist | .modeEmtbAssist | .modeWalkAssist | .modeCruise | .modeMotorCalibration
  | .sysNoError | .sysMotorBlocked | .sysTorqueSensorFault | .sysCommLost | .cmodeBlocked | .cmodeInterpolated
  | .auxfNone | .mtypeMotorA | .mtypeMotorB => true

/-- The operands are ones the encoding of the row admits, whatever the parameters: the one row whose operand field does not
take every value is MODE.RESERVED, codes 6 to 255 (rule R118). -/
def Instr.encodable : Instr → Bool
  | .modeReserved c => 6 ≤ c.toNat
  | _ => true

end Sys2Proof
end

