-- ==== Sys2Proof/Decode.lean ====
section
/-! DEFINITION. Decoding what the environment delivers (`30_encoding.md` rules R101 to R106, R109 to R113, R117), total on any
item and rejecting by name, then the encoder written from the same tables. -/

namespace Sys2Proof

/-- Why an item is no row of the table. -/
inductive Reject where
  /-- A bit that rule R101 says is zero is set (rule R117). -/
  | reservedBits
  /-- The code is no row of the format. -/
  | unknownRow
  /-- CFG_LOAD or CMD_RX without the record that accompanies the word (rule R101). -/
  | missingRecord
  /-- A record beside a word that rule R101 gives none, or the wrong record. -/
  | strayRecord
deriving DecidableEq, Repr

/-- The slice of `n` bits from bit `lo`, unsigned (rules R9, R102). -/
def field (w : U32) (lo n : Nat) : BitVec n := w.extractLsb' lo n

/-- No bit outside `mask` is set. -/
def onlyBits (mask w : U32) : Bool := decide (w &&& ~~~mask = 0)

/-- An instruction read from a word whose bits outside `mask` are zero. -/
def decodeOnly (mask w : U32) (i : Instr) : Except Reject Instr :=
  if onlyBits mask w then .ok i else .error .reservedBits

/-- An event word that no record accompanies. -/
def decodePlain (mask w : U32) (att : Attachment) (i : Instr) : Except Reject Instr :=
  match att with
  | .nothing => decodeOnly mask w i
  | .cfg _ => .error .strayRecord
  | .cmd _ => .error .strayRecord

/-- CFG_LOAD: the record `CFG` accompanies the word (rule R101). -/
def decodeCfgLoad (w : U32) (att : Attachment) : Except Reject Instr :=
  match att with
  | .cfg r => decodeOnly 0xF0000000 w (.cfgLoad r)
  | .nothing => .error .missingRecord
  | .cmd _ => .error .strayRecord

/-- CMD_RX: the record `CMD` accompanies the word (rule R101). -/
def decodeCmdRx (w : U32) (att : Attachment) : Except Reject Instr :=
  match att with
  | .cmd r => decodeOnly 0xF0000000 w (.cmdRx r)
  | .nothing => .error .missingRecord
  | .cfg _ => .error .strayRecord

/-- The operation of an event word (rule R101): bits 31 to 28 are the event code; codes 8 to 15 are the reserved row. -/
def decodeEvent (w : U32) (att : Attachment) : Except Reject Instr :=
  match (field w 28 4).toNat with
  | 0 => decodePlain 0xF0000000 w att .reset
  | 1 => decodeCfgLoad w att
  | 2 => decodeCmdRx w att
  | 3 => decodePlain 0xF007FFFF w att (.hallEdge (field w 0 16) (field w 16 3))
  | 4 => decodePlain 0xFFFFFFFF w att
      (.pwmRising (field w 16 12) (field w 4 12) (w.getLsbD 3) (w.getLsbD 2) (field w 0 2))
  | 5 => decodePlain 0xF000FFFF w att (.pwmFalling (field w 0 16))
  | 6 => decodePlain 0xF0FFFFFF w att (.tickBegin (field w 12 12) (field w 0 12))
  | 7 => decodePlain 0xF0000000 w att .tickEnd
  | _ => decodePlain 0xFFFFFFFF w att (.evReserved (field w 0 31))

/-- Format `SUB` (rule R103): parent event code, then the position in the parent's order. The operand bits stand where the
parent's event word has them. -/
def decodeSub (code : U8) (w : U32) : Except Reject Instr :=
  match code.toNat with
  | 0x41 => decodeOnly 0x0000FFF0 w (.ibatFilter (field w 4 12))
  | 0x42 => decodeOnly 0x0FFF0008 w (.pinLatch (field w 16 12) (w.getLsbD 3))
  | 0x43 => decodeOnly 0x00000003 w (.cadStep (field w 0 2))
  | 0x44 => decodeOnly 0x00000004 w (.whlStep (w.getLsbD 2))
  | 0x45 => decodeOnly 0 w .rampStep
  | 0x51 => decodeOnly 0x0000FFFF w (.stallCheck (field w 0 16))
  | 0x52 => decodeOnly 0 w .erpsDerive
  | 0x53 => decodeOnly 0 w .interp
  | 0x54 => decodeOnly 0 w .svmSynth
  | 0x55 => decodeOnly 0 w .cmpCommit
  | 0x61 => decodeOnly 0 w .cmdLatch
  | 0x62 => decodeOnly 0 w .snapshot
  | 0x63 => decodeOnly 0 w .vbatFilter
  | 0x64 => decodeOnly 0 w .whlSpeed
  | 0x65 => decodeOnly 0 w .cadRpm
  | 0x66 => decodeOnly 0x00000FFF w (.tqAcquire (field w 0 12))
  | 0x67 => decodeOnly 0 w .faultDetect
  | 0x68 => decodeOnly 0 w .modePolicy
  | 0x69 => decodeOnly 0x00FFF000 w (.postProcess (field w 12 12))
  | 0x6A => decodeOnly 0 w .globalCaps
  | 0x6B => decodeOnly 0 w .focUpdate
  | 0x6C => decodeOnly 0x00FFF000 w (.telemetryStage (field w 12 12))
  | 0x71 => decodeOnly 0 w .publish
  | 0x72 => decodeOnly 0 w .pwmGate
  | _ => .error .unknownRow

/-- Format `HALL3` (rules R104, R105): the pattern; the operand is the `tick` of HALL_EDGE. -/
def decodeHall3 (code : U8) (w : U32) : Except Reject Instr :=
  match code.toNat with
  | 6 => decodeOnly 0x0000FFFF w (.hallS0 (field w 0 16))
  | 2 => decodeOnly 0x0000FFFF w (.hallS1 (field w 0 16))
  | 3 => decodeOnly 0x0000FFFF w (.hallS2 (field w 0 16))
  | 1 => decodeOnly 0x0000FFFF w (.hallS3 (field w 0 16))
  | 5 => decodeOnly 0x0000FFFF w (.hallS4 (field w 0 16))
  | 4 => decodeOnly 0x0000FFFF w (.hallS5 (field w 0 16))
  | 0 => decodeOnly 0x0000FFFF w (.hallInv0 (field w 0 16))
  | 7 => decodeOnly 0x0000FFFF w (.hallInv7 (field w 0 16))
  | _ => .error .unknownRow

/-- Format `PAS4` (rule R106): the old state in bits 3 and 2, the new one in bits 1 and 0. -/
def decodePas4 (code : U8) (w : U32) : Except Reject Instr :=
  match code.toNat with
  | 0 => decodeOnly 0 w .pas00Same
  | 1 => decodeOnly 0 w .pas01Bwd
  | 2 => decodeOnly 0 w .pas02Fwd
  | 3 => decodeOnly 0 w .pas03Bwd
  | 4 => decodeOnly 0 w .pas10Fwd
  | 5 => decodeOnly 0 w .pas11Same
  | 6 => decodeOnly 0 w .pas12Bwd
  | 7 => decodeOnly 0 w .pas13Bwd
  | 8 => decodeOnly 0 w .pas20Bwd
  | 9 => decodeOnly 0 w .pas21Bwd
  | 10 => decodeOnly 0 w .pas22Same
  | 11 => decodeOnly 0 w .pas23Fwd
  | 12 => decodeOnly 0 w .pas30Bwd
  | 13 => decodeOnly 0 w .pas31Fwd
  | 14 => decodeOnly 0 w .pas32Bwd
  | 15 => decodeOnly 0 w .pas33Same
  | _ => .error .unknownRow

/-- Format `MODE` (rules R109, R118): codes 6 to 255 are the reserved row. -/
def decodeMode (code : U8) (w : U32) : Except Reject Instr :=
  match code.toNat with
  | 0 => decodeOnly 0 w .modeOff
  | 1 => decodeOnly 0 w .modePowerAssist
  | 2 => decodeOnly 0 w .modeEmtbAssist
  | 3 => decodeOnly 0 w .modeWalkAssist
  | 4 => decodeOnly 0 w .modeCruise
  | 5 => decodeOnly 0 w .modeMotorCalibration
  | _ => decodeOnly 0 w (.modeReserved code)

/-- Format `SYS` (rule R110). -/
def decodeSys (code : U8) (w : U32) : Except Reject Instr :=
  match code.toNat with
  | 0 => decodeOnly 0 w .sysNoError
  | 1 => decodeOnly 0 w .sysMotorBlocked
  | 2 => decodeOnly 0 w .sysTorqueSensorFault
  | 3 => decodeOnly 0 w .sysCommLost
  | _ => .error .unknownRow

/-- Format `CMODE` (rule R111). -/
def decodeCmode (code : U8) (w : U32) : Except Reject Instr :=
  match code.toNat with
  | 0 => decodeOnly 0 w .cmodeBlocked
  | 1 => decodeOnly 0 w .cmodeInterpolated
  | _ => .error .unknownRow

/-- Format `AUXF` (rule R112); the operand is the `adc_aux` of TICK_BEGIN where the function reads it. -/
def decodeAuxf (code : U8) (w : U32) : Except Reject Instr :=
  match code.toNat with
  | 0 => decodeOnly 0 w .auxfNone
  | 1 => decodeOnly 0x00FFF000 w (.auxfThrottle (field w 12 12))
  | 2 => decodeOnly 0x00FFF000 w (.auxfTemperature (field w 12 12))
  | 3 => decodeOnly 0 w .auxfReserved
  | _ => .error .unknownRow

/-- Format `MTYPE` (rule R113). -/
def decodeMtype (code : U8) (w : U32) : Except Reject Instr :=
  match code.toNat with
  | 0 => decodeOnly 0 w .mtypeMotorA
  | 1 => decodeOnly 0 w .mtypeMotorB
  | _ => .error .unknownRow

/-- A row of a format other than `EV32`. -/
def decodeRow (fmt : Format) (code : U8) (w : U32) : Except Reject Instr :=
  match fmt with
  | .sub => decodeSub code w
  | .hall3 => decodeHall3 code w
  | .pas4 => decodePas4 code w
  | .mode => decodeMode code w
  | .sys => decodeSys code w
  | .cmode => decodeCmode code w
  | .auxf => decodeAuxf code w
  | .mtype => decodeMtype code w

/-- The instruction of an item, or the name of the reason why it is none. -/
def decode : Input → Except Reject Instr
  | .event w att => decodeEvent w att
  | .row fmt code w => decodeRow fmt code w

/-! ### The encoder -/

/-- One bit of an event word. -/
def bit (b : Bool) : BitVec 1 := BitVec.ofBool b

/-- The operand word of a row whose operand is the `tick` of its parent's event word (rule R101). -/
def tickBits (t : U16) : U32 := 0#16 ++ t

/-- The operand word of a row whose operand is the `adc_aux` of its parent's event word (rule R101). -/
def auxBits (x : U12) : U32 := 0#8 ++ x ++ 0#12

/-- The item that carries an instruction (rules R101 to R106, R109 to R113). -/
def encode : Instr → Input
  | .reset => .event 0x00000000 .nothing
  | .cfgLoad r => .event 0x10000000 (.cfg r)
  | .cmdRx r => .event 0x20000000 (.cmd r)
  | .hallEdge t h => .event (0x3#4 ++ 0#9 ++ h ++ t) .nothing
  | .pwmRising v i b w p => .event (0x4#4 ++ v ++ i ++ bit b ++ bit w ++ p) .nothing
  | .pwmFalling t => .event (0x5#4 ++ 0#12 ++ t) .nothing
  | .tickBegin x q => .event (0x6#4 ++ 0#4 ++ x ++ q) .nothing
  | .tickEnd => .event 0x70000000 .nothing
  | .evReserved low => .event (1#1 ++ low) .nothing
  | .ibatFilter i => .row .sub 0x41 (0#16 ++ i ++ 0#4)
  | .pinLatch v b => .row .sub 0x42 (0#4 ++ v ++ 0#12 ++ bit b ++ 0#3)
  | .cadStep p => .row .sub 0x43 (0#30 ++ p)
  | .whlStep w => .row .sub 0x44 (0#29 ++ bit w ++ 0#2)
  | .rampStep => .row .sub 0x45 0
  | .stallCheck t => .row .sub 0x51 (tickBits t)
  | .erpsDerive => .row .sub 0x52 0
  | .interp => .row .sub 0x53 0
  | .svmSynth => .row .sub 0x54 0
  | .cmpCommit => .row .sub 0x55 0
  | .cmdLatch => .row .sub 0x61 0
  | .snapshot => .row .sub 0x62 0
  | .vbatFilter => .row .sub 0x63 0
  | .whlSpeed => .row .sub 0x64 0
  | .cadRpm => .row .sub 0x65 0
  | .tqAcquire q => .row .sub 0x66 (0#20 ++ q)
  | .faultDetect => .row .sub 0x67 0
  | .modePolicy => .row .sub 0x68 0
  | .postProcess x => .row .sub 0x69 (auxBits x)
  | .globalCaps => .row .sub 0x6A 0
  | .focUpdate => .row .sub 0x6B 0
  | .telemetryStage x => .row .sub 0x6C (auxBits x)
  | .publish => .row .sub 0x71 0
  | .pwmGate => .row .sub 0x72 0
  | .hallS0 t => .row .hall3 6 (tickBits t)
  | .hallS1 t => .row .hall3 2 (tickBits t)
  | .hallS2 t => .row .hall3 3 (tickBits t)
  | .hallS3 t => .row .hall3 1 (tickBits t)
  | .hallS4 t => .row .hall3 5 (tickBits t)
  | .hallS5 t => .row .hall3 4 (tickBits t)
  | .hallInv0 t => .row .hall3 0 (tickBits t)
  | .hallInv7 t => .row .hall3 7 (tickBits t)
  | .pas00Same => .row .pas4 0 0
  | .pas01Bwd => .row .pas4 1 0
  | .pas02Fwd => .row .pas4 2 0
  | .pas03Bwd => .row .pas4 3 0
  | .pas10Fwd => .row .pas4 4 0
  | .pas11Same => .row .pas4 5 0
  | .pas12Bwd => .row .pas4 6 0
  | .pas13Bwd => .row .pas4 7 0
  | .pas20Bwd => .row .pas4 8 0
  | .pas21Bwd => .row .pas4 9 0
  | .pas22Same => .row .pas4 10 0
  | .pas23Fwd => .row .pas4 11 0
  | .pas30Bwd => .row .pas4 12 0
  | .pas31Fwd => .row .pas4 13 0
  | .pas32Bwd => .row .pas4 14 0
  | .pas33Same => .row .pas4 15 0
  | .modeOff => .row .mode 0 0
  | .modePowerAssist => .row .mode 1 0
  | .modeEmtbAssist => .row .mode 2 0
  | .modeWalkAssist => .row .mode 3 0
  | .modeCruise => .row .mode 4 0
  | .modeMotorCalibration => .row .mode 5 0
  | .modeReserved c => .row .mode c 0
  | .sysNoError => .row .sys 0 0
  | .sysMotorBlocked => .row .sys 1 0
  | .sysTorqueSensorFault => .row .sys 2 0
  | .sysCommLost => .row .sys 3 0
  | .cmodeBlocked => .row .cmode 0 0
  | .cmodeInterpolated => .row .cmode 1 0
  | .auxfNone => .row .auxf 0 0
  | .auxfThrottle x => .row .auxf 1 (auxBits x)
  | .auxfTemperature x => .row .auxf 2 (auxBits x)
  | .auxfReserved => .row .auxf 3 0
  | .mtypeMotorA => .row .mtype 0 0
  | .mtypeMotorB => .row .mtype 1 0

/-! ### The table's words -/

/-- Whether an 8-bit code is one of the sub-operation codes of rule R103. -/
def isSubCode (c : Nat) : Bool :=
  (0x41 ≤ c && c ≤ 0x45) || (0x51 ≤ c && c ≤ 0x55) || (0x61 ≤ c && c ≤ 0x6C) || c = 0x71 || c = 0x72

/-- The record that accompanies a bare event word: the trace lines `CFG` and `CMD` with no field load `P_CFG` and the
all-absent command (rule R120, rows EW2 and EW3 of `95_test_vectors.md`; log entry 3). -/
def bareAttachment (w : Nat) : Attachment :=
  if w / 2 ^ 28 = 1 then .cfg Machine.refCfg
  else if w / 2 ^ 28 = 2 then .cmd CmdRec.empty
  else .nothing

/-- The item whose bits are `w`: an event word of 32 bits, or the code of a row in the low bits with the operand word above it.
An 8-bit code is a `SUB` row where rule R103 has one and a `MODE` code otherwise (log entry 3). -/
def inputOfWord (nbits w : Nat) : Input :=
  if nbits = 32 then .event (BitVec.ofNat 32 w) (bareAttachment (w % 2 ^ 32))
  else if nbits = 8 then
    if isSubCode (w % 256) then .row .sub (BitVec.ofNat 8 w) (BitVec.ofNat 32 (w / 256))
    else .row .mode (BitVec.ofNat 8 w) (BitVec.ofNat 32 (w / 256))
  else if nbits = 4 then .row .pas4 (BitVec.ofNat 8 (w % 16)) (BitVec.ofNat 32 (w / 16))
  else if nbits = 3 then .row .hall3 (BitVec.ofNat 8 (w % 8)) (BitVec.ofNat 32 (w / 8))
  else if nbits = 2 then .row .sys (BitVec.ofNat 8 (w % 4)) (BitVec.ofNat 32 (w / 4))
  else if nbits = 1 then .row .cmode (BitVec.ofNat 8 (w % 2)) (BitVec.ofNat 32 (w / 2))
  else .row .sub 0 0

/-- The instruction the decoder reads from a word numbered as `spec/opcode_table.json` numbers it. -/
def decodeTableWord (nbits w : Nat) : Option Instr :=
  match decode (inputOfWord nbits w) with
  | .ok i => some i
  | .error _ => none

end Sys2Proof
end

