-- ==== Sys2Proof/Machine/Fetch.lean ====
section
/-! DEFINITION. Taking the next item that the environment delivers. The block stores no program and has no program counter
(`10_state.md` rule R35, `20_memory.md` rule R72): the event trace is a function of the environment (`00_scope.md` rule R5), and
what of it is yet to come stands in `State.inbox` (log entry 3). -/

namespace Sys2Proof.Machine

/-- The reason a step stops on an item that is no instruction, by the decoder's own reason. -/
def refusalOf : Reject → Refusal
  | .reservedBits => .reservedBits
  | .unknownRow => .unknownRow
  | .missingRecord => .missingRecord
  | .strayRecord => .strayRecord

/-- The state in which the item that bears the bits `w` is the next one delivered (log entry 3). -/
def deliverWord (s : State) (nbits w : Nat) : State := s.withInbox (inputOfWord nbits w :: s.inbox)

/-- Run `run` on what an item decodes to, or refuse the item by the decoder's reason. -/
def runItem (run : Instr → State → Host.Outcome State Fault Refusal) (x : Input) (s : State) :
    Host.Outcome State Fault Refusal :=
  match decode x with
  | .ok i => run i s
  | .error r => .refused (refusalOf r)

/-- One delivery: a parameter set that breaks a constraint is refused (rule R8); with nothing to deliver the block waits and
nothing changes (rule R80: state changes at events only); else the next item is taken and run. -/
def deliver (run : Instr → State → Host.Outcome State Fault Refusal) (s : State) : Host.Outcome State Fault Refusal :=
  if s.par.wf then
    match s.inbox with
    | [] => .next s
    | x :: rest => runItem run x (s.withInbox rest)
  else .refused .illFormedParameters

end Sys2Proof.Machine
end

