-- ==== Sys2Proof/Machine/Step.lean ====
section
/-! DEFINITION. The step of the block: one delivery of the environment, run by `exec` (`20_memory.md` rules R80, R81: each event is
one atomic step). -/

namespace Sys2Proof.Machine

/-- One step. -/
def step (s : State) : Host.Outcome State Fault Refusal := deliver exec s

/-- `s` with the item that bears the bits `w` delivered next (log entry 3). -/
def State.withFetchWord (s : State) (nbits w : Nat) : State := deliverWord s nbits w

end Sys2Proof.Machine
end

