-- ==== Sys2Proof/Safety.lean ====
section
/-! DEFINITION. What a safe run of the block is, in the terms the statements use: the invariants the rules ask a model to prove,
the agents and what each may write (`10_state.md` rules R20 to R22), and the promises of the environment
(`47_system_operations.md` rule R357, `70_reset_and_hazards.md` rules R425 to R435), which the block does not record. -/

namespace Sys2Proof.Machine

/-! ### Invariants -/

/-- The ranges of the published and of the staged drive registers and of the duty cycle in the snapshot (rules R27, R34, R341, R344), and
the invariants of DutyCycleState (rules R28, R209). -/
abbrev DriveInv (s : State) : Prop :=
  (s.drive.duty.toNat ≤ s.par.dutyMax ∧ s.drive.fwAngle.toNat ≤ s.par.fwMax
    ∧ (0 < s.drive.fwAngle.toNat → s.drive.duty.toNat = s.par.dutyMax))
  ∧ (s.drive.dutyTarget.toNat ≤ s.par.dutyMax ∧ s.drive.iTarget.toNat ≤ s.par.iAdcMax
    ∧ (s.drive.iTarget.toNat = 0 → s.drive.dutyTarget.toNat = 0)
    ∧ s.par.rampUpMin ≤ s.drive.rampUpPeriod.toNat ∧ s.par.rampDownMin ≤ s.drive.rampDownPeriod.toNat)
  ∧ (s.drive.rampUpCnt.toNat ≤ 254 ∧ s.drive.rampDownCnt.toNat ≤ 254)
  ∧ (s.pend.dutyTarget.toNat ≤ s.par.dutyMax ∧ s.pend.iTarget.toNat ≤ s.par.iAdcMax
    ∧ (s.pend.iTarget.toNat = 0 → s.pend.dutyTarget.toNat = 0)
    ∧ s.par.rampUpMin ≤ s.pend.rampUpPeriod.toNat ∧ s.par.rampDownMin ≤ s.pend.rampDownPeriod.toNat)
  ∧ s.snap.duty.toNat ≤ s.par.dutyMax

/-- The range of the compare values (rules R25, R164), and of the three values on their way to them. -/
abbrev OutputInv (s : State) : Prop :=
  (s.out.cmpA.toNat ≤ 2 * s.par.pwmMid ∧ s.out.cmpB.toNat ≤ 2 * s.par.pwmMid ∧ s.out.cmpC.toNat ≤ 2 * s.par.pwmMid)
  ∧ (s.work.newA.toNat ≤ 2 * s.par.pwmMid ∧ s.work.newB.toNat ≤ 2 * s.par.pwmMid
    ∧ s.work.newC.toNat ≤ 2 * s.par.pwmMid)

/-- The rotor state (rules R24, R134, R137): the last accepted pattern is a valid one and its sector is the one held; the
interpolation has a reference; before the first accepted transition there is none. -/
abbrev RotorInv (s : State) : Prop :=
  s.rotor.hallLast ≠ 7
  ∧ (s.rotor.hallLast ≠ 0 → hallSector s.rotor.hallLast = some s.rotor.sector)
  ∧ (s.rotor.hallLast = 0 → s.rotor.revRefValid = false)
  ∧ (s.rotor.commMode = .interpolated → s.rotor.revRefValid = true)

/-- Cadence (rule R252 (iii)), wheel speed (rule R264), torque (rules R281 to R283, R289). -/
abbrev SensorInv (s : State) : Prop :=
  (s.cad.cadTicks.toNat ≠ 0 → s.cad.cadRef ≠ none)
  ∧ (s.whl.whlCounter.toNat ≤ s.par.whlTicksMax
    ∧ (s.whl.whlTicks.toNat ≠ 0 → s.par.whlTicksMin ≤ s.whl.whlTicks.toNat ∧ s.whl.whlTicks.toNat ≤ s.par.whlTicksMax)
    ∧ (s.whl.whlStarted = false → s.whl.whlCounter.toNat = 0 ∧ s.whl.whlTicks.toNat = 0))
  ∧ (s.tq.tqBootCnt.toNat ≤ s.par.tqZeroTicks
    ∧ (s.tq.tqBootCnt.toNat < s.par.tqZeroTicks → s.tq.tqDelta.toNat = 0 ∧ s.tq.torqueX100.toNat = 0)
    ∧ s.tq.tqDelta.toNat ≤ s.par.adcTMaxSample)

/-- The accumulators of the shift-based filters and the filtered values (rules R29, R184, R289, R360, R361), and the voltage samples
held. -/
abbrev FilterInv (s : State) : Prop :=
  (s.adc.ibatAcc.toNat ≤ s.par.adcIMaxSample * 2 ^ s.par.iShift ∧ s.adc.ibatFilt.toNat = s.adc.ibatAcc.toNat / 2 ^ s.par.iShift)
  ∧ (s.adc.vbatAcc.toNat ≤ s.par.adcVMaxSample * 2 ^ s.par.vShift ∧ s.adc.vbatFilt.toNat = s.adc.vbatAcc.toNat / 2 ^ s.par.vShift)
  ∧ (s.adc.vbatRaw.toNat ≤ s.par.adcVMaxSample ∧ s.snap.vbatRaw.toNat ≤ s.par.adcVMaxSample)
  ∧ s.tq.tqOffAcc.toNat ≤ s.par.adcTMaxSample * 2 ^ s.par.tqOffShift
  ∧ s.foc.focAcc.toNat ≤ 255 * 2 ^ s.par.focShift

/-- The records and the assist and fault state: what is loaded is legal (rules R40, R353, R354), a tick is open only with a configuration
(rules R355, R425), the ranges of the motor-blocked counters and the level they present (rules R385, R386), the range of the cruise
integral (rule R321). -/
abbrev SystemInv (s : State) : Prop :=
  ((s.asst.cfgValid = true → s.cfg.legal = true) ∧ s.cmdIn.legal = true ∧ s.cmd.legal = true)
  ∧ (s.asst.tickOpen = true → s.asst.cfgValid = true)
  ∧ (s.asst.mbCnt.toNat ≤ s.par.mbTicks ∧ s.asst.mbCooldown.toNat ≤ s.par.mbCooldownTicks
    ∧ (s.ctl.systemState = .motorBlocked ↔ s.asst.mbCooldown.toNat ≠ 0))
  ∧ (0 ≤ s.asst.cruiseIntegral.toInt ∧ s.asst.cruiseIntegral.toInt ≤ s.par.cruiseILimit)

/-! ### The targets of a tick -/

/-- Rule R345 (i) to (iv) and (vi), of a TICK_BEGIN from `s` to `t` with the optional-ADC sample `adcAux`. In (iv) the target that the
throttle meets is 0, so rule R328 overrides there exactly where the mapped sample is above 0; `cap` is the `i_cap` of rule R302, `f` is
`EFF.aux_function` (rule R41). -/
def StagedTargetsSafe (adcAux : U12) (s t : State) : Prop :=
  ∀ (f : AuxFunction) (cap : Nat),
    f = (if t.cmd.hasAuxFunction = true then t.cmd.auxFunction else t.cfg.auxFunction) →
    cap = min (min s.par.iAdcMax (if t.cmd.hasIMax = true then t.cmd.iMax.toNat else t.cfg.iMax.toNat))
      (if t.adc.vbatFilt.toNat = 0 then 0
       else (if t.cmd.hasPowerMax = true then t.cmd.powerMaxW.toNat else t.cfg.powerMaxW.toNat) * 1000000
          / (t.adc.vbatFilt.toNat * s.par.mvPerVstep * s.par.maPerIstep)) →
    t.pend.iTarget.toNat ≤ min s.par.iAdcMax (if t.cmd.hasIMax = true then t.cmd.iMax.toNat else t.cfg.iMax.toNat)
    ∧ (t.pend.iTarget.toNat = 0 → t.pend.dutyTarget.toNat = 0)
    ∧ (t.ctl.systemState ≠ .noError →
        t.pend.iTarget.toNat = 0 ∧ t.pend.dutyTarget.toNat = 0 ∧ t.pend.rampDownPeriod.toNat = s.par.rampDownMin)
    ∧ ((t.ctl.mode = .powerAssist ∨ (t.ctl.mode = .emtbAssist ∧ ∀ c, emtbRead s.par.emtbTable c 0 = 0)) →
        t.tq.tqDelta = 0 → s.cfg.iMinFloor = 0 →
        (t.snap.fwAngle.toNat ≤ s.par.fwBonusMinAngle ∨ ¬(t.cfg.fwEnabled = true ∧ t.cmd.flags.getLsbD 0 = true)) →
        (f = .throttle → linMap adcAux.toNat s.par.thrAdcMin s.par.thrAdcMax 0 cap = 0) →
        t.pend.iTarget.toNat = 0 ∧ t.pend.dutyTarget.toNat = 0)
    ∧ (f = .temperature → s.cfg.tempMax.toNat ≤ s.cfg.tempMin.toNat → t.pend.iTarget.toNat = 0)

/-- Rule R345 (v): of the target current before POST_PROCESS (`s`), after the branch of the optional-ADC function `f` (`u`) and after the
speed limit (`t`): the throttle never lowers it, the other limiters never raise it. -/
def LimitersSafe (f : AuxFunction) (s u t : State) : Prop :=
  (f = .throttle → s.work.tgt.i ≤ u.work.tgt.i) ∧ (f ≠ .throttle → u.work.tgt.i ≤ s.work.tgt.i)
  ∧ t.work.tgt.i ≤ u.work.tgt.i

/-! ### Agents and ownership -/

/-- The agents that execute steps (rule R20). -/
inductive Agent where
  | hall
  | pwm
  | main
  | env
deriving DecidableEq, Repr

/-- The priority order of rule R20, highest first; ENV has none of its own (rule R392). -/
def Agent.rank : Agent → Nat
  | .hall => 0
  | .pwm => 1
  | .main => 2
  | .env => 3

/-- The agent of an operation (rules R101, R103); a code-space row belongs to the operation that reads its code. The reserved rows
are nobody's. -/
def agentOf : Instr → Option Agent
  | .evReserved _ | .auxfReserved => none
  | .reset | .cfgLoad _ | .cmdRx _ => some .env
  | .hallEdge _ _ | .hallS0 _ | .hallS1 _ | .hallS2 _ | .hallS3 _ | .hallS4 _ | .hallS5 _ | .hallInv0 _ | .hallInv7 _ => some .hall
  | .pwmRising _ _ _ _ _ | .pwmFalling _ | .ibatFilter _ | .pinLatch _ _ | .cadStep _ | .whlStep _ | .rampStep
  | .stallCheck _ | .erpsDerive | .interp | .svmSynth | .cmpCommit
  | .pas00Same | .pas01Bwd | .pas02Fwd | .pas03Bwd | .pas10Fwd | .pas11Same | .pas12Bwd | .pas13Bwd
  | .pas20Bwd | .pas21Bwd | .pas22Same | .pas23Fwd | .pas30Bwd | .pas31Fwd | .pas32Bwd | .pas33Same
  | .cmodeBlocked | .cmodeInterpolated => some .pwm
  | .tickBegin _ _ | .tickEnd | .cmdLatch | .snapshot | .vbatFilter | .whlSpeed | .cadRpm | .tqAcquire _ | .faultDetect
  | .modePolicy | .postProcess _ | .globalCaps | .focUpdate | .telemetryStage _ | .publish | .pwmGate
  | .modeOff | .modePowerAssist | .modeEmtbAssist | .modeWalkAssist | .modeCruise | .modeMotorCalibration | .modeReserved _
  | .sysNoError | .sysMotorBlocked | .sysTorqueSensorFault | .sysCommLost
  | .auxfNone | .auxfThrottle _ | .auxfTemperature _ | .mtypeMotorA | .mtypeMotorB => some .main

/-- HALL owns RotorState without `erps` (rules R21, R23, R138): nothing else changes. -/
def hallKeeps (s t : State) : Prop :=
  t = { s with rotor := { t.rotor with erps := s.rotor.erps } }

/-- What PWM changes besides the locals of its step: its own registers (rules R23 to R31), and on a stall the four of rule R22 (a). -/
def pwmKeeps (s t : State) : Prop :=
  (t = { s with
      rotor := { s.rotor with
        erps := t.rotor.erps, commMode := t.rotor.commMode, revTicks := t.rotor.revTicks, revRefValid := t.rotor.revRefValid }
      out := { s.out with cmpA := t.out.cmpA, cmpB := t.out.cmpB, cmpC := t.out.cmpC }
      foc := { s.foc with focAngle := t.foc.focAngle }
      drive := { s.drive with
        duty := t.drive.duty, fwAngle := t.drive.fwAngle, rampUpCnt := t.drive.rampUpCnt, rampDownCnt := t.drive.rampDownCnt }
      adc := { s.adc with
        ibatAcc := t.adc.ibatAcc, ibatFilt := t.adc.ibatFilt, vbatRaw := t.adc.vbatRaw, brake := t.adc.brake }
      cad := { t.cad with cadStopMinAdj := s.cad.cadStopMinAdj, cadenceRpm := s.cad.cadenceRpm }
      whl := { t.whl with wheelSpeedX10 := s.whl.wheelSpeedX10 }
      work := t.work })
  ∧ ((t.rotor.commMode = s.rotor.commMode ∧ t.rotor.revTicks = s.rotor.revTicks
        ∧ t.rotor.revRefValid = s.rotor.revRefValid ∧ t.foc.focAngle = s.foc.focAngle)
      ∨ (t.rotor.commMode = .blocked ∧ t.rotor.revTicks.toNat = min s.par.revTicksInvalid 65535
        ∧ t.rotor.revRefValid = false ∧ t.foc.focAngle = 0))

/-- What MAIN changes besides the locals of its step: its own registers (rules R25 to R34, R37 to R39), and on a re-enable of the
output the four of rule R22 (b). -/
def mainKeeps (s t : State) : Prop :=
  (t = { s with
      out := { s.out with pwmEnabled := t.out.pwmEnabled, tlm := t.out.tlm }
      foc := t.foc
      drive := t.drive
      adc := { s.adc with vbatAcc := t.adc.vbatAcc, vbatFilt := t.adc.vbatFilt }
      cad := { s.cad with cadStopMinAdj := t.cad.cadStopMinAdj, cadenceRpm := t.cad.cadenceRpm }
      whl := { s.whl with wheelSpeedX10 := t.whl.wheelSpeedX10 }
      tq := t.tq
      asst := { t.asst with cfgValid := s.asst.cfgValid }
      ctl := t.ctl
      cmd := t.cmd
      snap := t.snap
      pend := t.pend
      work := t.work })
  ∧ ((t.drive.duty = s.drive.duty ∧ t.drive.fwAngle = s.drive.fwAngle ∧ t.drive.rampUpCnt = s.drive.rampUpCnt
        ∧ t.drive.rampDownCnt = s.drive.rampDownCnt)
      ∨ (s.out.pwmEnabled = false ∧ t.out.pwmEnabled = true ∧ t.drive.fwAngle = 0 ∧ t.drive.rampUpCnt = 0
        ∧ t.drive.rampDownCnt = 0 ∧ t.drive.duty.toNat = min s.par.dutyStartup 255))

/-- What ENV changes with CFG_LOAD and CMD_RX: the configuration, the mailbox, their flags, and the `has_` bits of the latched command
(rules R33, R39, R40, R353, R354). -/
def envKeeps (s t : State) : Prop :=
  t = { s with
    cfg := t.cfg
    cmdIn := t.cmdIn
    asst := { s.asst with cfgValid := t.asst.cfgValid, cmdPending := t.asst.cmdPending }
    cmd := { s.cmd with
      hasSpeedMax := t.cmd.hasSpeedMax, hasAuxFunction := t.cmd.hasAuxFunction, hasIMax := t.cmd.hasIMax,
      hasPowerMax := t.cmd.hasPowerMax, hasAccel := t.cmd.hasAccel } }

/-- What an agent may change, but for RESET, which 'writes everything' (rule R22 (c)). -/
def agentKeeps (a : Agent) (s t : State) : Prop :=
  match a with
  | .hall => hallKeeps s t
  | .pwm => pwmKeeps s t
  | .main => mainKeeps s t
  | .env => envKeeps s t

/-! ### The promises of the environment -/

/-- What the promises need to remember of a trace; none of it is state of the block (rule R35, log entry 7). Times are true,
unwrapped counts of the free-running counter (rule R432). -/
structure Env where
  /-- A CFG_LOAD since RESET (rule R425). -/
  loaded : Bool
  /-- The boot HALL_EDGE of rule R426 has been delivered. -/
  booted : Bool
  /-- The next PWM half is the rising one (rule R431). -/
  nextRising : Bool
  /-- Between the halves of a control tick (rule R434). -/
  inTick : Bool
  /-- The time of the last `tick` operand (rule R432). -/
  lastTime : Nat
  /-- The time of the last PWM_FALLING, or of the boot HALL_EDGE before the first (rule R433). -/
  lastFalling : Nat
deriving DecidableEq, Repr

/-- After RESET: 'may be delivered at any point of a trace, where it ends whatever was open' (rule R420). -/
def Env.afterReset (e : Env) : Env := { e with loaded := false, booted := false, nextRising := true, inTick := false }

/-- The event at the true time `time` keeps every promise of rule R357. A row of another format is no event. -/
def Env.admits (e : Env) (p : Params) (i : Instr) (time : Nat) : Bool :=
  i.wf p &&
    match i with
    | .reset => true
    | .cfgLoad _ => true
    | .cmdRx _ => e.loaded
    | .hallEdge t _ => e.loaded && decide (t = BitVec.ofNat 16 time ∧ e.lastTime ≤ time)
    | .pwmRising _ _ _ _ _ => e.booted && e.nextRising
    | .pwmFalling t =>
      e.booted && !e.nextRising
        && decide (t = BitVec.ofNat 16 time ∧ e.lastTime ≤ time ∧ time - e.lastFalling < 65536 - p.stallTicks)
    | .tickBegin _ _ => e.loaded && !e.inTick
    | .tickEnd => e.inTick
    | _ => false

/-- What is remembered after the event. -/
def Env.after (e : Env) (i : Instr) (time : Nat) : Env :=
  match i with
  | .reset => e.afterReset
  | .cfgLoad _ => { e with loaded := true }
  | .hallEdge _ _ => { e with booted := true, lastTime := time, lastFalling := if e.booted then e.lastFalling else time }
  | .pwmRising _ _ _ _ _ => { e with nextRising := false }
  | .pwmFalling _ => { e with nextRising := true, lastTime := time, lastFalling := time }
  | .tickBegin _ _ => { e with inTick := true }
  | .tickEnd => { e with inTick := false }
  | _ => e

/-- The block's two flags say what the promises remember. -/
abbrev Env.agrees (e : Env) (s : State) : Prop :=
  (e.loaded = s.asst.cfgValid ∧ e.inTick = s.asst.tickOpen)
  ∧ (e.inTick = true → e.loaded = true) ∧ (e.booted = true → e.loaded = true)

end Sys2Proof.Machine
end

