-- ==== Sys2Proof/Certificates/Slice0/Obligations.lean ====
section
/-! DEFINITION. The statements for the provers. A frame reads `t = { s with … }`: every register not named is unchanged; the block
has no addressed memory (`20_memory.md` rule R72). Results are written in natural-number arithmetic from the rules. -/

open Sys2Proof Sys2Proof.Machine

/-! ### Encoding -/

/-- Event words of `95_test_vectors.md` section 3.1 decode to what they stand for; so do codes of rules R103, R104, R106, R109 and R113
delivered by themselves with their operand at its place in the parent's word, which is the model's choice (log entries 2 and 13). -/
def Obligations.DecodeWords : Prop :=
  decode (.event 0x00000000 .nothing) = .ok .reset
  ∧ decode (.event 0x300603E8 .nothing) = .ok (.hallEdge 1000 6)
  ∧ decode (.event 0x3007FFFF .nothing) = .ok (.hallEdge 65535 7)
  ∧ decode (.event 0x42280286 .nothing) = .ok (.pwmRising 552 40 false true 2)
  ∧ decode (.event 0x42280008 .nothing) = .ok (.pwmRising 552 0 true false 0)
  ∧ decode (.event 0x50001D4C .nothing) = .ok (.pwmFalling 7500)
  ∧ decode (.event 0x600460BA .nothing) = .ok (.tickBegin 70 186)
  ∧ decode (.event 0x70000000 .nothing) = .ok .tickEnd
  ∧ decode (.row .sub 0x41 0x00000280) = .ok (.ibatFilter 40)
  ∧ decode (.row .sub 0x72 0) = .ok .pwmGate
  ∧ decode (.row .hall3 4 1000) = .ok (.hallS5 1000)
  ∧ decode (.row .pas4 0b1101 0) = .ok .pas31Fwd
  ∧ decode (.row .mode 5 0) = .ok .modeMotorCalibration
  ∧ decode (.row .mtype 1 0) = .ok .mtypeMotorB

/-- Decoding the encoding of an instruction gives it back, every operand at every value its encoding admits. -/
def Obligations.DecodeEncode : Prop :=
  ∀ i : Instr, i.encodable = true → decode (encode i) = .ok i

/-- Each instruction has one encoding: what decodes to it is what the encoder writes. That a row delivered by itself is refused when a
bit beyond its own operand is set is the model's choice (log entry 13); for event words it is rule R117. -/
def Obligations.EncodeDecode : Prop :=
  ∀ (x : Input) (i : Instr), decode x = .ok i → i.encodable = true ∧ encode i = x

/-- Rule R117: a reserved event code, a nonzero bit in a field the table says is zero, and an ADC operand above its maximum are
refused. Bits are counted as in the table of rule R101. -/
def Obligations.IllegalEventsRefused : Prop :=
  ∀ (s : State) (w : U32) (att : Attachment) (rest : List Input),
    s.par.wf = true → s.inbox = .event w att :: rest →
    (8 ≤ w.toNat / 2 ^ 28
      ∨ ((w.toNat / 2 ^ 28 = 0 ∨ w.toNat / 2 ^ 28 = 1 ∨ w.toNat / 2 ^ 28 = 2 ∨ w.toNat / 2 ^ 28 = 7)
          ∧ w.toNat % 2 ^ 28 ≠ 0)
      ∨ (w.toNat / 2 ^ 28 = 3 ∧ w.toNat % 2 ^ 28 / 2 ^ 19 ≠ 0)
      ∨ (w.toNat / 2 ^ 28 = 5 ∧ w.toNat % 2 ^ 28 / 2 ^ 16 ≠ 0)
      ∨ (w.toNat / 2 ^ 28 = 6 ∧ w.toNat % 2 ^ 28 / 2 ^ 24 ≠ 0)
      ∨ (w.toNat / 2 ^ 28 = 4
          ∧ (s.par.adcVMaxSample < w.toNat / 2 ^ 16 % 2 ^ 12 ∨ s.par.adcIMaxSample < w.toNat / 2 ^ 4 % 2 ^ 12))
      ∨ (w.toNat / 2 ^ 28 = 6
          ∧ (s.par.adcAuxMaxSample < w.toNat / 2 ^ 12 % 2 ^ 12 ∨ s.par.adcTMaxSample < w.toNat % 2 ^ 12))) →
    ∃ r, step s = .refused r

/-- The two rows of the table whose meaning is a refusal on every path (rules R117, R112). -/
def Obligations.ReservedRowsStop : Prop :=
  (∀ (low : BitVec 31) (s : State), exec (.evReserved low) s = .refused .reservedEventCode)
  ∧ (∀ s : State, exec .auxfReserved s = .refused .reservedAuxFunction)

/-! ### The step -/

/-- A step runs the decoded instruction on the state with its item taken; with nothing delivered nothing changes; an item that
does not decode is refused by the decoder's reason. The placing of a word by the host's interface makes it the next one run. What is
yet to be delivered, the step with nothing delivered and the placing of a word are the model's choice (log entry 3). -/
def Obligations.StepRunsDecoded : Prop :=
  (∀ (s : State) (x : Input) (rest : List Input) (i : Instr),
    s.par.wf = true → s.inbox = x :: rest → decode x = .ok i → step s = exec i { s with inbox := rest })
  ∧ (∀ s : State, s.par.wf = true → s.inbox = [] → step s = .next s)
  ∧ (∀ (s : State) (x : Input) (rest : List Input) (r : Reject),
    s.par.wf = true → s.inbox = x :: rest → decode x = .error r → step s = .refused (refusalOf r))
  ∧ (∀ (s : State) (nbits w : Nat) (i : Instr),
    s.par.wf = true → decodeTableWord nbits w = some i → step (s.withFetchWord nbits w) = exec i s)

/-- Rule R8: a parameter set that violates a constraint, or a configuration record that violates a legal range, is refused (the values of
P_REF pass although they break the constraint on PWM_MID: log entry 6). Rule R425: until a configuration is loaded every event but RESET and CFG_LOAD is
refused. -/
def Obligations.Refusals : Prop :=
  ((∀ s : State, s.par.wf = false → step s = .refused .illFormedParameters)
    ∧ (∀ (s : State) (r : CfgRec), r.legal = false → exec (.cfgLoad r) s = .refused .illegalConfiguration))
  ∧ (∀ s : State, s.asst.cfgValid = false →
      (∀ r, exec (.cmdRx r) s = .refused .notConfigured)
      ∧ (∀ t h, exec (.hallEdge t h) s = .refused .notConfigured)
      ∧ (∀ v i b w p, exec (.pwmRising v i b w p) s = .refused .notConfigured)
      ∧ (∀ t, exec (.pwmFalling t) s = .refused .notConfigured)
      ∧ (∀ x q, exec (.tickBegin x q) s = .refused .notConfigured)
      ∧ exec .tickEnd s = .refused .notConfigured)

/-! ### Invariants kept by every step -/

/-- The ranges of the drive registers, of the staged targets and of the duty cycle in the snapshot, and 'fw_angle > 0 implies duty =
DUTY_MAX' (rules R27, R28, R34, R209, R344). -/
def Obligations.DriveInvKept : Prop :=
  ∀ s t : State, DriveInv s → step s = .next t → DriveInv t

/-- The compare values stay in 0 to 2 * PWM_MID (rules R25, R164). -/
def Obligations.OutputInvKept : Prop :=
  ∀ s t : State, DriveInv s → OutputInv s → step s = .next t → OutputInv t

/-- The invariant of the rotor state (rules R24 (iv), R134, R137). -/
def Obligations.RotorInvKept : Prop :=
  ∀ s t : State, RotorInv s → step s = .next t → RotorInv t

/-- The invariant of cadence, wheel speed and torque (rules R252, R264, R281, R289). -/
def Obligations.SensorInvKept : Prop :=
  ∀ s t : State, SensorInv s → step s = .next t → SensorInv t

/-- The bounds of the four filter accumulators and of the torque offset's, and their relation to the filtered values (rules R29, R184,
R289, R360, R361). -/
def Obligations.FilterInvKept : Prop :=
  ∀ s t : State, FilterInv s → step s = .next t → FilterInv t

/-- The invariant of the records and of the assist and fault state (rules R40, R321, R354, R385, R386). -/
def Obligations.SystemInvKept : Prop :=
  ∀ s t : State, SystemInv s → step s = .next t → SystemInv t

/-- Every invariant holds right after reset, on the parameters the model puts there, P_REF (log entry 1), which are well formed by log
entry 6. -/
def Obligations.InvariantsAtReset : Prop :=
  State.reset.par.wf = true ∧ DriveInv State.reset ∧ OutputInv State.reset ∧ RotorInv State.reset ∧ SensorInv State.reset
  ∧ FilterInv State.reset ∧ SystemInv State.reset

/-! ### Rules about the whole machine -/

/-- Rule R101: the agent of each event. Rules R21 and R22: an operation of an agent writes the registers that agent owns, and another's
only as rule R22 allows; RESET writes everything. The locals of a running step, the model's own, are free. -/
def Obligations.AgentsWriteTheirOwn : Prop :=
  (agentOf .reset = some .env ∧ (∀ r, agentOf (.cfgLoad r) = some .env) ∧ (∀ r, agentOf (.cmdRx r) = some .env)
    ∧ (∀ t h, agentOf (.hallEdge t h) = some .hall)
    ∧ (∀ v i b w p, agentOf (.pwmRising v i b w p) = some .pwm) ∧ (∀ t, agentOf (.pwmFalling t) = some .pwm)
    ∧ (∀ x q, agentOf (.tickBegin x q) = some .main) ∧ agentOf .tickEnd = some .main)
  ∧ ∀ (i : Instr) (a : Agent) (s t : State), i ≠ .reset → agentOf i = some a → exec i s = .next t → agentKeeps a s t

/-- Rule R24 (i) and (ii): the captured registers change, and the mode becomes INTERPOLATED, only in a Hall edge (or RESET); it becomes
BLOCKED only on a stall in PWM_FALLING or in its STALL_CHECK (or RESET). Rule R37: no operation but RESET, FAULT_DETECT and the TICK_BEGIN it
is part of changes the system state. Rule R70: no operation changes the tables and parameters. -/
def Obligations.RegisterWriters : Prop :=
  (∀ (i : Instr) (s t : State), i ≠ .reset → exec i s = .next t →
      (agentOf i ≠ some .hall →
        t.rotor.sectorAngle = s.rotor.sectorAngle ∧ t.rotor.sectorOffset = s.rotor.sectorOffset
        ∧ t.rotor.hallRefTick = s.rotor.hallRefTick ∧ t.rotor.revRefTick = s.rotor.revRefTick
        ∧ t.rotor.calTicks = s.rotor.calTicks ∧ t.rotor.hallLast = s.rotor.hallLast ∧ t.rotor.sector = s.rotor.sector)
      ∧ (s.rotor.commMode = .blocked → t.rotor.commMode = .interpolated →
        agentOf i = some .hall ∧ t.rotor.sector.val = s.par.revSector ∧ s.rotor.revRefValid = true)
      ∧ (s.rotor.commMode = .interpolated → t.rotor.commMode = .blocked →
        ∃ tick : U16, (i = .pwmFalling tick ∨ i = .stallCheck tick)
          ∧ s.par.stallTicks < (tick - s.rotor.hallRefTick).toNat))
  ∧ (∀ (i : Instr) (s t : State), exec i s = .next t →
      t.par = s.par
      ∧ ((i ≠ .reset ∧ i ≠ .faultDetect ∧ ∀ x q, i ≠ .tickBegin x q) → t.ctl.systemState = s.ctl.systemState))

/-- Rules R357, R431 to R435: an event that keeps the environment's promises is never refused, and the block's flags go on agreeing
with what the promises remember. -/
def Obligations.PromisedEventsComplete : Prop :=
  ∀ (e : Env) (i : Instr) (time : Nat) (s : State),
    e.agrees s → e.admits s.par i time = true → ∃ t, exec i s = .next t ∧ (e.after i time).agrees t

/-- Rule R433 with rule R143: a Hall state that persists past the threshold is reported at the first PWM_FALLING after it, when two
PWM_FALLING steps are less than 2^16 - STALL_TICKS apart. `h`, `a`, `b` are the true times of the last accepted transition, of a PWM_FALLING
that saw no stall yet, and of the next. -/
def Obligations.NoStallIsMissed : Prop :=
  ∀ (s : State) (h a b : Nat),
    s.asst.cfgValid = true → s.par.stallTicks < 65536 → s.rotor.hallRefTick = BitVec.ofNat 16 h →
    h ≤ a → a ≤ b → a - h ≤ s.par.stallTicks → b - a < 65536 - s.par.stallTicks → s.par.stallTicks < b - h →
    ∃ t, exec (.pwmFalling (BitVec.ofNat 16 b)) s = .next t ∧ t.rotor.commMode = .blocked ∧ t.rotor.revRefValid = false
      ∧ t.rotor.erps = 0 ∧ t.foc.focAngle = 0

/-! ### RESET, configuration and command -/

/-- Rule R420: every register holds the value of its Reset column; `CFG` is any record, the tables stay, and what is yet to be
delivered stays. -/
def Obligations.ResetRegisters : Prop :=
  ∀ s : State, s.par.wf = true → ∃ t, exec .reset s = .next t
    ∧ (t.rotor.hallLast = 0 ∧ t.rotor.sector = 0 ∧ t.rotor.sectorAngle = 0 ∧ t.rotor.sectorOffset = 0
      ∧ t.rotor.hallRefTick = 0 ∧ t.rotor.calTicks = zeroTicks ∧ t.rotor.revRefTick = 0 ∧ t.rotor.revRefValid = false
      ∧ t.rotor.revTicks.toNat = s.par.revTicksInvalid ∧ t.rotor.commMode = .blocked ∧ t.rotor.erps = 0)
    ∧ ((s.par.pwmMid < 65536 → t.out.cmpA.toNat = s.par.pwmMid) ∧ t.out.cmpB = t.out.cmpA ∧ t.out.cmpC = t.out.cmpA
      ∧ t.out.pwmEnabled = false ∧ t.out.tlm = Telemetry.zero ∧ t.foc.focAngle = 0 ∧ t.foc.focAcc = 0)
    ∧ (t.drive.duty = 0 ∧ t.drive.fwAngle = 0 ∧ t.drive.dutyTarget = 0 ∧ t.drive.iTarget = 0
      ∧ t.drive.rampUpPeriod.toNat = s.par.rampUpDefault ∧ t.drive.rampDownPeriod.toNat = s.par.rampDownDefault
      ∧ t.drive.rampUpCnt = 0 ∧ t.drive.rampDownCnt = 0 ∧ t.drive.fwEnabled = false)
    ∧ (t.adc = { ibatAcc := 0, ibatFilt := 0, vbatRaw := 0, brake := false, vbatAcc := 0, vbatFilt := 0 })
    ∧ (t.cad.pasOld = 0 ∧ t.cad.cadRef = none ∧ t.cad.cadCounter = 0 ∧ t.cad.cadTicks = 0 ∧ t.cad.cadStopCnt = 0
      ∧ t.cad.cadStopMin.toNat = s.par.cadStopTicksSlow ∧ t.cad.cadStopMinAdj.toNat = s.par.cadStopTicksSlow
      ∧ t.cad.cadenceRpm = 0)
    ∧ (t.whl = { whlPinOld := false, whlStarted := false, whlCounter := 0, whlTicks := 0, whlTotal := 0, wheelSpeedX10 := 0 })
    ∧ (t.tq = { tqRaw := 0, tqOffAcc := 0, tqOffset := 0, tqBootCnt := 0, tqDelta := 0, torqueX100 := 0 })
    ∧ (t.asst = {
        cruiseActive := false, cruiseTargetX10 := 0, cruiseIntegral := 0, auxValue := 0, mbCnt := 0, mbCooldown := 0,
        commMissed := 0, cmdPending := false, tickOpen := false, cfgValid := false })
    ∧ (t.ctl = { systemState := .noError, mode := .off, modeParam := 0 } ∧ t.cmd = CmdRec.empty ∧ t.cmdIn = CmdRec.empty)
    ∧ (t.snap = {
        duty := 0, fwAngle := 0, ibatFilt := 0, vbatRaw := 0, brake := false, erps := 0, cadTicks := 0, whlTicks := 0,
        whlTotal := 0, calTicks := zeroTicks })
    ∧ (t.pend.iTarget = 0 ∧ t.pend.dutyTarget = 0 ∧ t.pend.rampUpPeriod.toNat = s.par.rampUpDefault
      ∧ t.pend.rampDownPeriod.toNat = s.par.rampDownDefault ∧ t.pend.focAngle = 0
      ∧ t.pend.cadStopMinAdj.toNat = s.par.cadStopTicksSlow ∧ t.pend.fwEnabled = false ∧ t.pend.tlm = Telemetry.zero)
    ∧ t.par = s.par ∧ t.inbox = s.inbox

/-- Rule R353: a legal record is loaded and every override of the command is withdrawn; an illegal one is refused. Rule R354: a legal
command replaces the mailbox; one with the reserved optional-ADC function, or before a configuration, is refused. -/
def Obligations.RecordIntake : Prop :=
  (∀ (s : State) (r : CfgRec), r.legal = true →
    exec (.cfgLoad r) s = .next { s with
      cfg := r
      asst := { s.asst with cfgValid := true }
      cmd := { s.cmd with
        hasSpeedMax := false, hasAuxFunction := false, hasIMax := false, hasPowerMax := false, hasAccel := false } })
  ∧ (∀ (s : State) (r : CmdRec), s.asst.cfgValid = true → ¬(r.hasAuxFunction = true ∧ r.auxFunction = .reserved) →
    exec (.cmdRx r) s = .next { s with cmdIn := r, asst := { s.asst with cmdPending := true } })
  ∧ (∀ (s : State) (r : CmdRec), s.asst.cfgValid = true → r.hasAuxFunction = true → r.auxFunction = .reserved →
    exec (.cmdRx r) s = .refused .reservedAuxFunction)
  ∧ (∀ (s : State) (r : CfgRec), r.legal = false → exec (.cfgLoad r) s = .refused .illegalConfiguration)
  ∧ (∀ (s : State) (r : CmdRec), s.asst.cfgValid = false → exec (.cmdRx r) s = .refused .notConfigured)

/-! ### The rotor -/

/-- Rules R130, R133, R135, R136, R137: an accepted edge writes the rotor registers and nothing else; a rejected one changes nothing. -/
def Obligations.HallEdge : Prop :=
  ∀ (s : State) (tick : U16) (hall : U3), s.asst.cfgValid = true →
    ((hall = 0 ∨ hall = 7 ∨ hall = s.rotor.hallLast
        ∨ (s.rotor.hallLast ≠ 0 ∧ hallNext s.rotor.hallLast ≠ some hall)) →
      exec (.hallEdge tick hall) s = .next s)
    ∧ ((hall ≠ 0 ∧ hall ≠ 7 ∧ hall ≠ s.rotor.hallLast
        ∧ (s.rotor.hallLast = 0 ∨ hallNext s.rotor.hallLast = some hall)) →
      ∃ k, hallSector hall = some k ∧ exec (.hallEdge tick hall) s = .next { s with
        rotor :=
          { hallLast := hall
            sector := k
            sectorAngle := s.cfg.hallAngle.get k
            sectorOffset := s.cfg.hallOffset.get k
            hallRefTick := tick
            calTicks := s.rotor.calTicks.set k.val (tick - s.rotor.hallRefTick) k.isLt
            revRefTick := if k.val = s.par.revSector then tick else s.rotor.revRefTick
            revRefValid := if k.val = s.par.revSector then true else s.rotor.revRefValid
            revTicks :=
              if k.val = s.par.revSector ∧ s.rotor.revRefValid = true then tick - s.rotor.revRefTick else s.rotor.revTicks
            commMode :=
              if k.val = s.par.revSector ∧ s.rotor.revRefValid = true then .interpolated else s.rotor.commMode
            erps := s.rotor.erps } })

/-- Rules R104, R105, R131 and R132: the two tables of the Hall patterns, and the rows of format HALL3: each is HALL_EDGE with its pattern;
from the pattern before it in the forward sequence the six valid ones enter sectors 0 to 5, and the two invalid ones change nothing. -/
def Obligations.HallRows : Prop :=
  ((hallSector 6 = some 0 ∧ hallSector 2 = some 1 ∧ hallSector 3 = some 2 ∧ hallSector 1 = some 3 ∧ hallSector 5 = some 4
      ∧ hallSector 4 = some 5 ∧ hallSector 0 = none ∧ hallSector 7 = none)
    ∧ (hallNext 6 = some 2 ∧ hallNext 2 = some 3 ∧ hallNext 3 = some 1 ∧ hallNext 1 = some 5 ∧ hallNext 5 = some 4
      ∧ hallNext 4 = some 6)
    ∧ (∀ p q : U3, hallNext p = some q → ∃ k j, hallSector p = some k ∧ hallSector q = some j ∧ j.val = (k.val + 1) % 6))
  ∧ ((∀ (s : State) (tick : U16), s.asst.cfgValid = true →
      ∀ r ∈ ([(.hallS0 tick, 6, 4, 0), (.hallS1 tick, 2, 6, 1), (.hallS2 tick, 3, 2, 2), (.hallS3 tick, 1, 3, 3),
          (.hallS4 tick, 5, 1, 4), (.hallS5 tick, 4, 5, 5)] : List (Instr × U3 × U3 × Fin 6)),
        ∃ t, exec r.1 s = .next t ∧ exec (.hallEdge tick r.2.1) s = .next t
          ∧ ((s.rotor.hallLast = 0 ∨ s.rotor.hallLast = r.2.2.1) →
            t.rotor.hallLast = r.2.1 ∧ t.rotor.sector = r.2.2.2 ∧ t.rotor.sectorAngle = s.cfg.hallAngle.get r.2.2.2
              ∧ t.rotor.hallRefTick = tick ∧ t = { s with rotor := t.rotor })
          ∧ (¬(s.rotor.hallLast = 0 ∨ s.rotor.hallLast = r.2.2.1) → t = s))
    ∧ (∀ (s : State) (tick : U16), s.asst.cfgValid = true →
      exec (.hallInv0 tick) s = .next s ∧ exec (.hallInv7 tick) s = .next s))

/-- Rule R140: the stall detector. -/
def Obligations.StallCheck : Prop :=
  ∀ (s : State) (tick : U16), s.par.revTicksInvalid < 65536 → ∃ t, exec (.stallCheck tick) s = .next t
    ∧ t = { s with
        rotor := { s.rotor with
          commMode := t.rotor.commMode, revTicks := t.rotor.revTicks, revRefValid := t.rotor.revRefValid }
        foc := { s.foc with focAngle := t.foc.focAngle }
        work := { s.work with raw := t.work.raw } }
    ∧ t.work.raw.toNat = (65536 + tick.toNat - s.rotor.hallRefTick.toNat) % 65536
    ∧ (s.par.stallTicks < t.work.raw.toNat →
      t.rotor.commMode = .blocked ∧ t.foc.focAngle = 0 ∧ t.rotor.revTicks.toNat = s.par.revTicksInvalid
        ∧ t.rotor.revRefValid = false)
    ∧ (t.work.raw.toNat ≤ s.par.stallTicks → t.rotor = s.rotor ∧ t.foc = s.foc)

/-- Rule R142: the electrical speed; rule R161: the interpolation term. -/
def Obligations.SpeedAndInterpolation : Prop :=
  (∀ s : State, ∃ t, exec .erpsDerive s = .next t
    ∧ t = { s with rotor := { s.rotor with erps := t.rotor.erps } }
    ∧ t.rotor.erps.toNat =
        (if s.rotor.commMode = .blocked then 0
         else if s.rotor.revTicks.toNat = 0 then 65535
         else min (s.par.hallTickHz / s.rotor.revTicks.toNat) 65535))
  ∧ (∀ s : State, ∃ t, exec .interp s = .next t
    ∧ t = { s with work := { s.work with interp := t.work.interp } }
    ∧ t.work.interp.toNat =
        (if s.rotor.commMode = .blocked then 0
         else ((if s.rotor.revTicks.toNat = 0 then 0
            else (s.work.raw.toNat + s.rotor.sectorOffset.toNat) % 65536 * 256 / s.rotor.revTicks.toNat)
            + s.drive.fwAngle.toNat) % 256))

/-- Rules R163, R164 and R165: the three indices and the compare values; the lower deviation never exceeds PWM_MID. -/
def Obligations.SvmSynth : Prop :=
  ∀ s : State, s.par.wf = true → 2 * s.par.pwmMid < 65536 → s.drive.duty.toNat ≤ s.par.dutyMax →
    ∃ t, exec .svmSynth s = .next t
    ∧ t = { s with work := { s.work with newA := t.work.newA, newB := t.work.newB, newC := t.work.newC } }
    ∧ ∃ a b c : U8,
        b.toNat = (s.rotor.sectorAngle.toNat + s.work.interp.toNat + s.foc.focAngle.toNat) % 256
        ∧ a.toNat = (b.toNat + s.par.phaseAOffset) % 256 ∧ c.toNat = (b.toNat + s.par.phaseCOffset) % 256
        ∧ ∀ v ∈ ([(a, t.work.newA), (b, t.work.newB), (c, t.work.newC)] : List (U8 × U16)),
            let e := svmRead s.par.svmTable v.1
            (s.par.svmMid < e →
              v.2.toNat = s.par.pwmMid + (e - s.par.svmMid) * s.drive.duty.toNat / 256)
            ∧ (e ≤ s.par.svmMid →
              v.2.toNat + (s.par.svmMid - e) * s.drive.duty.toNat / 256 = s.par.pwmMid)

/-- Rules R167 (with R76), R356 and R358: the three sub-operations that only copy: CMP_COMMIT, SNAPSHOT and PUBLISH. -/
def Obligations.RegisterCopies : Prop :=
  (∀ s : State, exec .cmpCommit s = .next { s with
      out := { s.out with cmpA := s.work.newA, cmpB := s.work.newB, cmpC := s.work.newC } })
  ∧ (∀ s : State, exec .snapshot s = .next { s with
      snap :=
        { duty := s.drive.duty, fwAngle := s.drive.fwAngle, ibatFilt := s.adc.ibatFilt, vbatRaw := s.adc.vbatRaw,
          brake := s.adc.brake, erps := s.rotor.erps, cadTicks := s.cad.cadTicks, whlTicks := s.whl.whlTicks,
          whlTotal := s.whl.whlTotal, calTicks := s.rotor.calTicks } })
  ∧ (∀ s : State, exec .publish s = .next { s with
      drive := { s.drive with
        iTarget := s.pend.iTarget, dutyTarget := s.pend.dutyTarget, rampUpPeriod := s.pend.rampUpPeriod,
        rampDownPeriod := s.pend.rampDownPeriod, fwEnabled := s.pend.fwEnabled }
      foc := { s.foc with focAngle := s.pend.focAngle }
      cad := { s.cad with cadStopMinAdj := s.pend.cadStopMinAdj } })

/-! ### PWM_RISING -/

/-- Rule R360: the battery-current filter and its bound, for parameter sets in which the bound fits the 16 bits of the accumulator (log
entry 8: sets in which it does not are left out). Rule R351: the pins latched. -/
def Obligations.CurrentFilterAndPins : Prop :=
  (∀ (s : State) (x : U12), s.par.wf = true → x.toNat ≤ s.par.adcIMaxSample →
    s.par.adcIMaxSample * 2 ^ s.par.iShift < 65536 → s.adc.ibatAcc.toNat ≤ s.par.adcIMaxSample * 2 ^ s.par.iShift →
    ∃ t, exec (.ibatFilter x) s = .next t
    ∧ t = { s with adc := { s.adc with ibatAcc := t.adc.ibatAcc, ibatFilt := t.adc.ibatFilt } }
    ∧ t.adc.ibatAcc.toNat = s.adc.ibatAcc.toNat - s.adc.ibatAcc.toNat / 2 ^ s.par.iShift + x.toNat
    ∧ t.adc.ibatFilt.toNat = t.adc.ibatAcc.toNat / 2 ^ s.par.iShift
    ∧ t.adc.ibatAcc.toNat ≤ s.par.adcIMaxSample * 2 ^ s.par.iShift)
  ∧ (∀ (s : State) (x : U12) (brake : Bool), x.toNat ≤ s.par.adcVMaxSample → ∃ t, exec (.pinLatch x brake) s = .next t
    ∧ t = { s with adc := { s.adc with vbatRaw := t.adc.vbatRaw, brake := brake } } ∧ t.adc.vbatRaw.toNat = x.toNat)

/-- Rule R241: one cadence step, the transition and then the counters. -/
def Obligations.CadStep : Prop :=
  ∀ (s : State) (pas : U2), s.par.wf = true → ∃ t, exec (.cadStep pas) s = .next t
    ∧ t = { s with cad := { t.cad with cadStopMinAdj := s.cad.cadStopMinAdj, cadenceRpm := s.cad.cadenceRpm } }
    ∧ t.cad.pasOld = pas
    ∧ ∃ (fwd bwd : Prop) (min1 ticks1 counter1 cnt1 : Nat) (ref1 : Option U2),
        (fwd ↔ pas ≠ s.cad.pasOld ∧ s.par.pasPrev pas = s.cad.pasOld)
        ∧ (bwd ↔ pas ≠ s.cad.pasOld ∧ s.par.pasPrev pas ≠ s.cad.pasOld)
        ∧ (fwd → min1 = min (s.cad.cadStopMinAdj.toNat + s.par.cadSchmitt) 65535)
        ∧ (¬fwd → min1 = s.cad.cadStopMin.toNat)
        ∧ (bwd → ticks1 = 0 ∧ counter1 = 0 ∧ ref1 = none)
        ∧ (fwd → s.cad.cadRef = some pas → ticks1 = s.cad.cadCounter.toNat ∧ counter1 = 0 ∧ ref1 = some pas)
        ∧ (fwd → s.cad.cadRef = none → ticks1 = s.cad.cadTicks.toNat ∧ counter1 = 0 ∧ ref1 = some pas)
        ∧ (fwd → s.cad.cadRef ≠ none → s.cad.cadRef ≠ some pas →
            ticks1 = (if s.cad.cadTicks.toNat = 0 then s.par.cadTicksStartup else s.cad.cadTicks.toNat)
            ∧ counter1 = s.cad.cadCounter.toNat ∧ ref1 = s.cad.cadRef)
        ∧ (¬fwd → ¬bwd → ticks1 = s.cad.cadTicks.toNat ∧ counter1 = s.cad.cadCounter.toNat ∧ ref1 = s.cad.cadRef)
        ∧ cnt1 = min ((if pas = s.cad.pasOld then s.cad.cadStopCnt.toNat else 0) + 1) 65535
        ∧ t.cad.cadStopMin.toNat = min1
        ∧ (min1 < cnt1 → t.cad.cadTicks.toNat = 0 ∧ t.cad.cadStopCnt.toNat = 0 ∧ t.cad.cadRef = none
            ∧ t.cad.cadCounter.toNat = counter1)
        ∧ (cnt1 ≤ min1 → t.cad.cadTicks.toNat = ticks1 ∧ t.cad.cadStopCnt.toNat = cnt1 ∧ t.cad.cadRef = ref1
            ∧ t.cad.cadCounter.toNat = (if ref1 = none then counter1 else min (counter1 + 1) 65535))

/-- Rule R106: each row of format PAS4 is CAD_STEP on its new state where `pas_old` is its old state, and is refused in any other state
(log entry 2); under the P_REF table the classes are the sixteen the rule tabulates. -/
def Obligations.PasRows : Prop :=
  ∀ r ∈ ([(.pas00Same, 0, 0, .same), (.pas01Bwd, 0, 1, .bwd), (.pas02Fwd, 0, 2, .fwd), (.pas03Bwd, 0, 3, .bwd),
      (.pas10Fwd, 1, 0, .fwd), (.pas11Same, 1, 1, .same), (.pas12Bwd, 1, 2, .bwd), (.pas13Bwd, 1, 3, .bwd),
      (.pas20Bwd, 2, 0, .bwd), (.pas21Bwd, 2, 1, .bwd), (.pas22Same, 2, 2, .same), (.pas23Fwd, 2, 3, .fwd),
      (.pas30Bwd, 3, 0, .bwd), (.pas31Fwd, 3, 1, .fwd), (.pas32Bwd, 3, 2, .bwd), (.pas33Same, 3, 3, .same)]
      : List (Instr × U2 × U2 × PasClass)),
    pasClass refParams r.2.1 r.2.2.1 = r.2.2.2
    ∧ (∀ s : State, s.cad.pasOld = r.2.1 →
      ∃ t, exec r.1 s = .next t ∧ exec (.cadStep r.2.2.1) s = .next t ∧ t.cad.pasOld = r.2.2.1
        ∧ (pasClass s.par r.2.1 r.2.2.1 = .bwd → t.cad.cadTicks = 0 ∧ t.cad.cadRef = none))
    ∧ (∀ s : State, s.cad.pasOld ≠ r.2.1 → exec r.1 s = .refused .codeNotHeld)

/-- Rule R261: one wheel step, the pin edge and then the counter. -/
def Obligations.WhlStep : Prop :=
  ∀ (s : State) (pin : Bool), s.par.wf = true → ∃ t, exec (.whlStep pin) s = .next t
    ∧ t = { s with whl := { t.whl with wheelSpeedX10 := s.whl.wheelSpeedX10 } }
    ∧ t.whl.whlPinOld = pin
    ∧ ∃ (first accepted : Prop) (counter1 ticks1 : Nat),
        (first ↔ pin = true ∧ s.whl.whlPinOld = false ∧ s.whl.whlStarted = false)
        ∧ (accepted ↔ pin = true ∧ s.whl.whlPinOld = false ∧ s.whl.whlStarted = true
            ∧ s.par.whlTicksMin ≤ s.whl.whlCounter.toNat)
        ∧ (first ∨ accepted → counter1 = 0) ∧ (¬(first ∨ accepted) → counter1 = s.whl.whlCounter.toNat)
        ∧ (accepted → ticks1 = s.whl.whlCounter.toNat ∧ t.whl.whlTotal.toNat = (s.whl.whlTotal.toNat + 1) % 2 ^ 32)
        ∧ (¬accepted → ticks1 = s.whl.whlTicks.toNat ∧ t.whl.whlTotal = s.whl.whlTotal)
        ∧ ((s.whl.whlStarted = true ∨ first) → counter1 < s.par.whlTicksMax →
            t.whl.whlStarted = true ∧ t.whl.whlCounter.toNat = counter1 + 1 ∧ t.whl.whlTicks.toNat = ticks1)
        ∧ ((s.whl.whlStarted = true ∨ first) → s.par.whlTicksMax ≤ counter1 →
            t.whl.whlStarted = false ∧ t.whl.whlCounter.toNat = 0 ∧ t.whl.whlTicks.toNat = 0)
        ∧ (¬(s.whl.whlStarted = true ∨ first) →
            t.whl.whlStarted = false ∧ t.whl.whlCounter = s.whl.whlCounter ∧ t.whl.whlTicks = s.whl.whlTicks)

/-- Rules R201 to R208: one step of the ramp controller, by its four branches in order. -/
def Obligations.RampStep : Prop :=
  ∀ s : State, s.par.wf = true → ∃ t, exec .rampStep s = .next t
    ∧ t = { s with drive := { s.drive with
        duty := t.drive.duty, fwAngle := t.drive.fwAngle, rampUpCnt := t.drive.rampUpCnt, rampDownCnt := t.drive.rampDownCnt } }
    ∧ ∃ (c1 c2 c3 c4 c5 c6 forced : Prop) (period : Nat),
        (c1 ↔ s.drive.dutyTarget.toNat < s.drive.duty.toNat)
        ∧ (c2 ↔ s.drive.iTarget.toNat < s.adc.ibatFilt.toNat)
        ∧ (c3 ↔ s.par.phaseIMax <
            (if s.drive.duty.toNat = 0 then 0 else min (s.adc.ibatFilt.toNat * 256 / s.drive.duty.toNat) 65535))
        ∧ (c4 ↔ s.par.erpsMax < s.rotor.erps.toNat)
        ∧ (c5 ↔ s.adc.vbatRaw.toNat < s.cfg.vbatCutoff.toNat)
        ∧ (c6 ↔ s.adc.brake = true)
        ∧ (forced ↔ (c1 ∧ s.par.forceFastMask.getLsbD 0 = true) ∨ (c2 ∧ s.par.forceFastMask.getLsbD 1 = true)
            ∨ (c3 ∧ s.par.forceFastMask.getLsbD 2 = true) ∨ (c4 ∧ s.par.forceFastMask.getLsbD 3 = true)
            ∨ (c5 ∧ s.par.forceFastMask.getLsbD 4 = true) ∨ (c6 ∧ s.par.forceFastMask.getLsbD 5 = true))
        ∧ (forced → period = s.par.rampDownMin) ∧ (¬forced → period = s.drive.rampDownPeriod.toNat)
        ∧ ((c1 ∨ c2 ∨ c3 ∨ c4 ∨ c5 ∨ c6) → t.drive.rampUpCnt.toNat = 0
            ∧ (s.drive.rampDownCnt.toNat + 1 < period → t.drive.rampDownCnt.toNat = s.drive.rampDownCnt.toNat + 1
                ∧ t.drive.duty = s.drive.duty ∧ t.drive.fwAngle = s.drive.fwAngle)
            ∧ (period ≤ s.drive.rampDownCnt.toNat + 1 → t.drive.rampDownCnt.toNat = 0
                ∧ t.drive.fwAngle.toNat = s.drive.fwAngle.toNat - 1
                ∧ t.drive.duty.toNat =
                    (if s.drive.fwAngle.toNat = 0 then s.drive.duty.toNat - 1 else s.drive.duty.toNat)))
        ∧ (¬(c1 ∨ c2 ∨ c3 ∨ c4 ∨ c5 ∨ c6) →
            (s.drive.duty.toNat < s.drive.dutyTarget.toNat → t.drive.rampDownCnt.toNat = 0
              ∧ t.drive.fwAngle = s.drive.fwAngle
              ∧ (s.drive.rampUpCnt.toNat + 1 < s.drive.rampUpPeriod.toNat →
                  t.drive.rampUpCnt.toNat = s.drive.rampUpCnt.toNat + 1 ∧ t.drive.duty = s.drive.duty)
              ∧ (s.drive.rampUpPeriod.toNat ≤ s.drive.rampUpCnt.toNat + 1 →
                  t.drive.rampUpCnt.toNat = 0 ∧ t.drive.duty.toNat = s.drive.duty.toNat + 1))
            ∧ (s.drive.dutyTarget.toNat ≤ s.drive.duty.toNat →
              t.drive.duty = s.drive.duty ∧ t.drive.rampDownCnt.toNat = 0
              ∧ ((s.drive.duty.toNat = s.par.dutyMax ∧ s.drive.fwEnabled = true
                    ∧ s.adc.ibatFilt.toNat < s.drive.iTarget.toNat) →
                  (s.drive.rampUpCnt.toNat + 1 < s.drive.rampUpPeriod.toNat →
                    t.drive.rampUpCnt.toNat = s.drive.rampUpCnt.toNat + 1 ∧ t.drive.fwAngle = s.drive.fwAngle)
                  ∧ (s.drive.rampUpPeriod.toNat ≤ s.drive.rampUpCnt.toNat + 1 → t.drive.rampUpCnt.toNat = 0
                    ∧ t.drive.fwAngle.toNat =
                        (if s.drive.fwAngle.toNat < s.par.fwMax then s.drive.fwAngle.toNat + 1 else s.drive.fwAngle.toNat)))
              ∧ (¬(s.drive.duty.toNat = s.par.dutyMax ∧ s.drive.fwEnabled = true
                    ∧ s.adc.ibatFilt.toNat < s.drive.iTarget.toNat) →
                  t.drive.rampUpCnt.toNat = 0 ∧ t.drive.fwAngle = s.drive.fwAngle)))

/-- Rules R103, R351 and R352: PWM_RISING and PWM_FALLING are their five sub-operations in order; the locals of PWM_FALLING are gone at
its end. -/
def Obligations.PwmEvents : Prop :=
  (∀ (s : State) (v i : U12) (brake whl : Bool) (pas : U2), s.asst.cfgValid = true →
      v.toNat ≤ s.par.adcVMaxSample → i.toNat ≤ s.par.adcIMaxSample → ∃ a b c d t,
      exec (.ibatFilter i) s = .next a ∧ exec (.pinLatch v brake) a = .next b ∧ exec (.cadStep pas) b = .next c
      ∧ exec (.whlStep whl) c = .next d ∧ exec .rampStep d = .next t ∧ exec (.pwmRising v i brake whl pas) s = .next t)
  ∧ (∀ (s : State) (tick : U16), s.asst.cfgValid = true → ∃ a b c d e,
      exec (.stallCheck tick) s = .next a ∧ exec .erpsDerive a = .next b ∧ exec .interp b = .next c
      ∧ exec .svmSynth c = .next d ∧ exec .cmpCommit d = .next e
      ∧ exec (.pwmFalling tick) s = .next { e with work := Work.zero })

/-! ### TICK_BEGIN: intake and measurements -/

/-- Rules R355, R359, R384, R118: the command latched, or one missed command counted. -/
def Obligations.CmdLatch : Prop :=
  ∀ s : State, ∃ t, exec .cmdLatch s = .next t
    ∧ t = { s with
        asst := { s.asst with cmdPending := false, commMissed := t.asst.commMissed }
        ctl := { s.ctl with mode := t.ctl.mode, modeParam := t.ctl.modeParam }
        cmd := { t.cmd with mode := s.cmd.mode, modeParam := s.cmd.modeParam }
        pend := { s.pend with fwEnabled := s.cfg.fwEnabled && t.cmd.flags.getLsbD 0 } }
    ∧ (s.asst.cmdPending = false →
      t.asst.commMissed.toNat = min (s.asst.commMissed.toNat + 1) 255 ∧ t.ctl = s.ctl ∧ t.cmd = s.cmd)
    ∧ (s.asst.cmdPending = true → t.asst.commMissed = 0 ∧ t.ctl.modeParam = s.cmdIn.modeParam
      ∧ (s.cmdIn.mode.toNat = 0 → t.ctl.mode = .off) ∧ (s.cmdIn.mode.toNat = 1 → t.ctl.mode = .powerAssist)
      ∧ (s.cmdIn.mode.toNat = 2 → t.ctl.mode = .emtbAssist) ∧ (s.cmdIn.mode.toNat = 3 → t.ctl.mode = .walkAssist)
      ∧ (s.cmdIn.mode.toNat = 4 → t.ctl.mode = .cruise) ∧ (s.cmdIn.mode.toNat = 5 → t.ctl.mode = .motorCalibration)
      ∧ (6 ≤ s.cmdIn.mode.toNat → t.ctl.mode = .off)
      ∧ t.cmd.flags = s.cmdIn.flags
      ∧ (s.cmdIn.hasSpeedMax = true → t.cmd.hasSpeedMax = true ∧ t.cmd.speedMax = s.cmdIn.speedMax)
      ∧ (s.cmdIn.hasSpeedMax = false → t.cmd.hasSpeedMax = s.cmd.hasSpeedMax ∧ t.cmd.speedMax = s.cmd.speedMax)
      ∧ (s.cmdIn.hasAuxFunction = true → t.cmd.hasAuxFunction = true ∧ t.cmd.auxFunction = s.cmdIn.auxFunction)
      ∧ (s.cmdIn.hasAuxFunction = false →
          t.cmd.hasAuxFunction = s.cmd.hasAuxFunction ∧ t.cmd.auxFunction = s.cmd.auxFunction)
      ∧ (s.cmdIn.hasIMax = true → t.cmd.hasIMax = true ∧ t.cmd.iMax = s.cmdIn.iMax)
      ∧ (s.cmdIn.hasIMax = false → t.cmd.hasIMax = s.cmd.hasIMax ∧ t.cmd.iMax = s.cmd.iMax)
      ∧ (s.cmdIn.hasPowerMax = true → t.cmd.hasPowerMax = true ∧ t.cmd.powerMaxW = s.cmdIn.powerMaxW)
      ∧ (s.cmdIn.hasPowerMax = false → t.cmd.hasPowerMax = s.cmd.hasPowerMax ∧ t.cmd.powerMaxW = s.cmd.powerMaxW)
      ∧ (s.cmdIn.hasAccel = true → t.cmd.hasAccel = true ∧ t.cmd.accel = s.cmdIn.accel)
      ∧ (s.cmdIn.hasAccel = false → t.cmd.hasAccel = s.cmd.hasAccel ∧ t.cmd.accel = s.cmd.accel))

/-- Rule R361: one step of the voltage filter, and its monotone approach to a constant input: below it the accumulator strictly increases
and the filtered value never exceeds it; above, the mirror image; at it nothing changes; so it is reached in finitely many ticks and kept. -/
def Obligations.VbatFilter : Prop :=
  (∀ s : State, s.par.wf = true → s.adc.vbatAcc.toNat ≤ 65535 * 2 ^ s.par.vShift →
      s.adc.vbatFilt.toNat = s.adc.vbatAcc.toNat / 2 ^ s.par.vShift →
      ∃ t, exec .vbatFilter s = .next t
      ∧ t = { s with adc := { s.adc with vbatAcc := t.adc.vbatAcc, vbatFilt := t.adc.vbatFilt } }
      ∧ t.adc.vbatAcc.toNat = s.adc.vbatAcc.toNat - s.adc.vbatAcc.toNat / 2 ^ s.par.vShift + s.snap.vbatRaw.toNat
      ∧ t.adc.vbatFilt.toNat = t.adc.vbatAcc.toNat / 2 ^ s.par.vShift
      ∧ (s.adc.vbatFilt.toNat < s.snap.vbatRaw.toNat →
        s.adc.vbatAcc.toNat < t.adc.vbatAcc.toNat ∧ t.adc.vbatFilt.toNat ≤ s.snap.vbatRaw.toNat)
      ∧ (s.snap.vbatRaw.toNat < s.adc.vbatFilt.toNat →
        t.adc.vbatAcc.toNat < s.adc.vbatAcc.toNat ∧ s.snap.vbatRaw.toNat ≤ t.adc.vbatFilt.toNat)
      ∧ (s.adc.vbatFilt.toNat = s.snap.vbatRaw.toNat → t.adc = s.adc))
  ∧ (∀ (s : State) (run : Nat → State), s.par.wf = true → s.adc.vbatAcc.toNat ≤ 65535 * 2 ^ s.par.vShift →
      s.adc.vbatFilt.toNat = s.adc.vbatAcc.toNat / 2 ^ s.par.vShift →
      run 0 = s → (∀ k, exec .vbatFilter (run k) = .next (run (k + 1))) →
      ∃ n, ∀ k, n ≤ k → (run k).adc.vbatFilt = s.snap.vbatRaw)

/-- Rules R265 and R250 with R251: the wheel speed and the cadence of the snapshot, and the speed-adjusted stop timeout staged. -/
def Obligations.SpeedAndCadence : Prop :=
  (∀ s : State, ∃ t, exec .whlSpeed s = .next t
    ∧ t = { s with whl := { s.whl with wheelSpeedX10 := t.whl.wheelSpeedX10 } }
    ∧ t.whl.wheelSpeedX10.toNat =
        (if s.snap.whlTicks.toNat = 0 then 0
         else min ((s.cfg.wheelPerimeterMm.toNat * s.par.pwmHz * 36) / (s.snap.whlTicks.toNat * 1000)) 65535))
  ∧ (∀ s : State, s.par.wf = true → ∃ t, exec .cadRpm s = .next t
    ∧ t = { s with
        cad := { s.cad with cadenceRpm := t.cad.cadenceRpm }, pend := { s.pend with cadStopMinAdj := t.pend.cadStopMinAdj } }
    ∧ t.cad.cadenceRpm.toNat =
        (if s.snap.cadTicks.toNat = 0 then 0
         else min (60 * s.par.pwmHz / s.par.pasCyclesPerRev / s.snap.cadTicks.toNat) 255)
    ∧ t.pend.cadStopMinAdj.toNat =
        linMap s.whl.wheelSpeedX10.toNat s.par.cadAdjSpeedLo s.par.cadAdjSpeedHi s.par.cadStopTicksSlow
          s.par.cadStopTicksFast)

/-- Rules R281 to R285 and R287: the self-zeroing window, the bias at its close, and the measurement after it. -/
def Obligations.TqAcquire : Prop :=
  ∀ (s : State) (x : U12), s.par.wf = true → x.toNat ≤ s.par.adcTMaxSample →
    s.tq.tqOffAcc.toNat ≤ s.par.adcTMaxSample * 2 ^ s.par.tqOffShift → ∃ t, exec (.tqAcquire x) s = .next t
    ∧ t = { s with tq := t.tq } ∧ t.tq.tqRaw.toNat = x.toNat
    ∧ (s.tq.tqBootCnt.toNat < s.par.tqZeroTicks →
      t.tq.tqOffAcc.toNat = s.tq.tqOffAcc.toNat - s.tq.tqOffAcc.toNat / 2 ^ s.par.tqOffShift + x.toNat
      ∧ t.tq.tqBootCnt.toNat = s.tq.tqBootCnt.toNat + 1 ∧ t.tq.tqDelta.toNat = 0 ∧ t.tq.torqueX100.toNat = 0
      ∧ (s.tq.tqBootCnt.toNat + 1 < s.par.tqZeroTicks →
          t.tq.tqOffset.toNat = t.tq.tqOffAcc.toNat / 2 ^ s.par.tqOffShift)
      ∧ (s.tq.tqBootCnt.toNat + 1 = s.par.tqZeroTicks →
          (t.tq.tqOffset.toNat : Int) =
            min (max ((t.tq.tqOffAcc.toNat / 2 ^ s.par.tqOffShift : Nat) + s.par.tqCalBias) 0) 65535))
    ∧ (s.par.tqZeroTicks ≤ s.tq.tqBootCnt.toNat →
      t.tq.tqOffAcc = s.tq.tqOffAcc ∧ t.tq.tqOffset = s.tq.tqOffset ∧ t.tq.tqBootCnt = s.tq.tqBootCnt
      ∧ t.tq.tqDelta.toNat = x.toNat - s.tq.tqOffset.toNat
      ∧ t.tq.torqueX100.toNat =
          (if s.cfg.tqLinEnabled = true then
            min (linearize s.cfg t.tq.tqDelta.toNat * s.par.tqWToX100Num / s.par.tqWToX100Den) 65535
           else min (t.tq.tqDelta.toNat * s.cfg.tqPerStepX100.toNat) 65535))

/-- Rule R286: LINEARIZE of a legal table: its value on each of the six segments and above the last, never decreasing, 0 at 0, at most the
last value. -/
def Obligations.Linearize : Prop :=
  ∀ c : CfgRec, c.legal = true →
    (∀ delta, delta ≤ c.tqLin[0].x.toNat → linearize c delta = delta * c.tqLin[0].y.toNat / c.tqLin[0].x.toNat)
    ∧ (∀ (k : Nat) (_ : k < 5) (delta : Nat), c.tqLin[k].x.toNat < delta → delta ≤ c.tqLin[k + 1].x.toNat →
        linearize c delta = c.tqLin[k].y.toNat
          + (delta - c.tqLin[k].x.toNat) * (c.tqLin[k + 1].y.toNat - c.tqLin[k].y.toNat)
            / (c.tqLin[k + 1].x.toNat - c.tqLin[k].x.toNat))
    ∧ (∀ delta, c.tqLin[5].x.toNat < delta → linearize c delta = c.tqLin[5].y.toNat)
    ∧ (∀ d e, d ≤ e → linearize c d ≤ linearize c e)
    ∧ linearize c 0 = 0 ∧ ∀ d, linearize c d ≤ c.tqLin[5].y.toNat

/-! ### TICK_BEGIN: faults -/

/-- Rules R382 to R387: the motor-blocked counters, and the one state reported, for parameter sets in which MB_TICKS and
MB_COOLDOWN_TICKS fit the 16 bits of their counters (log entry 8: sets in which they do not are left out). -/
def Obligations.FaultDetect : Prop :=
  ∀ s : State, s.par.mbTicks < 65536 → s.par.mbCooldownTicks < 65536 → 0 < s.par.mbTicks → s.asst.mbCnt.toNat < 65535 →
    ∃ t, exec .faultDetect s = .next t
    ∧ t = { s with
        asst := { s.asst with mbCnt := t.asst.mbCnt, mbCooldown := t.asst.mbCooldown }
        ctl := { s.ctl with systemState := t.ctl.systemState } }
    ∧ ∃ blocked fTq fComm : Prop,
        (blocked ↔ s.par.mbIMin < s.snap.ibatFilt.toNat ∧ s.snap.erps.toNat < s.par.mbErpsMax)
        ∧ (fTq ↔ (s.ctl.mode = .powerAssist ∨ s.ctl.mode = .emtbAssist) ∧ s.tq.tqBootCnt.toNat = s.par.tqZeroTicks
            ∧ (s.tq.tqOffset.toNat < s.par.tqOffsetMin ∨ s.par.tqOffsetMax < s.tq.tqOffset.toNat
              ∨ s.tq.tqRaw.toNat < s.par.tqRawMin ∨ s.par.tqRawMax < s.tq.tqRaw.toNat))
        ∧ (fComm ↔ s.par.commMissMax < s.asst.commMissed.toNat)
        ∧ (0 < s.asst.mbCooldown.toNat → t.asst.mbCnt.toNat = 0
            ∧ (blocked → t.asst.mbCooldown.toNat = s.par.mbCooldownTicks)
            ∧ (¬blocked → t.asst.mbCooldown.toNat = s.asst.mbCooldown.toNat - 1))
        ∧ (s.asst.mbCooldown.toNat = 0 →
            (¬blocked → t.asst.mbCnt.toNat = 0 ∧ t.asst.mbCooldown.toNat = 0)
            ∧ (blocked → s.asst.mbCnt.toNat + 1 < s.par.mbTicks →
                t.asst.mbCnt.toNat = s.asst.mbCnt.toNat + 1 ∧ t.asst.mbCooldown.toNat = 0)
            ∧ (blocked → s.par.mbTicks ≤ s.asst.mbCnt.toNat + 1 →
                t.asst.mbCnt.toNat = 0 ∧ t.asst.mbCooldown.toNat = s.par.mbCooldownTicks))
        ∧ (0 < t.asst.mbCooldown.toNat → t.ctl.systemState = .motorBlocked)
        ∧ (t.asst.mbCooldown.toNat = 0 → fTq → t.ctl.systemState = .torqueSensorFault)
        ∧ (t.asst.mbCooldown.toNat = 0 → ¬fTq → fComm → t.ctl.systemState = .commLost)
        ∧ (t.asst.mbCooldown.toNat = 0 → ¬fTq → ¬fComm → t.ctl.systemState = .noError)

/-- Rule R343, the effect of an active fault (rule R388) and its end (rule R389): the row of the code held gates the targets and stages the code;
the rows of the other codes are refused (log entry 2). -/
def Obligations.SysRows : Prop :=
  (∀ s : State, s.ctl.systemState = .noError → exec .sysNoError s = .next { s with
      pend := { s.pend with tlm := { s.pend.tlm with faultCode := 0 } } })
  ∧ (∀ r ∈ ([(.sysMotorBlocked, .motorBlocked, 1), (.sysTorqueSensorFault, .torqueSensorFault, 2), (.sysCommLost, .commLost, 3)]
        : List (Instr × SysState × U2)),
      ∀ s : State, s.ctl.systemState = r.2.1 → exec r.1 s = .next { s with
        work := { s.work with tgt := { s.work.tgt with i := 0, dutyTgt := 0, down := s.par.rampDownMin } }
        pend := { s.pend with tlm := { s.pend.tlm with faultCode := r.2.2 } } })
  ∧ (∀ r ∈ ([(.sysNoError, .noError), (.sysMotorBlocked, .motorBlocked), (.sysTorqueSensorFault, .torqueSensorFault),
        (.sysCommLost, .commLost)] : List (Instr × SysState)),
      ∀ s : State, s.ctl.systemState ≠ r.2 → exec r.1 s = .refused .codeNotHeld)

/-- Rule R390: from any state, with the blocked condition false, a command before every control tick, and the torque readings in bounds
or a mode that needs none, every tick from the MB_COOLDOWN_TICKS-th reports NO_ERROR. `pre k` is the state before the k-th TICK_BEGIN
and `post k` the state after it; between them other events may fall, which leave the motor-blocked counters alone. -/
def Obligations.FaultsEnd : Prop :=
  ∀ (pre post : Nat → State) (x q : Nat → U12) (p : Params),
    p.wf = true → (∀ k, (pre k).par = p) → (∀ k, exec (.tickBegin (x k) (q k)) (pre k) = .next (post k)) →
    (∀ k, (pre (k + 1)).asst.mbCnt = (post k).asst.mbCnt ∧ (pre (k + 1)).asst.mbCooldown = (post k).asst.mbCooldown) →
    (pre 0).asst.mbCooldown.toNat ≤ p.mbCooldownTicks →
    (∀ k, (pre k).asst.cmdPending = true) →
    (∀ k, ¬(p.mbIMin < (pre k).adc.ibatFilt.toNat ∧ (pre k).rotor.erps.toNat < p.mbErpsMax)) →
    (∀ k, ((post k).ctl.mode ≠ .powerAssist ∧ (post k).ctl.mode ≠ .emtbAssist)
      ∨ (p.tqOffsetMin ≤ (post k).tq.tqOffset.toNat ∧ (post k).tq.tqOffset.toNat ≤ p.tqOffsetMax
        ∧ p.tqRawMin ≤ (post k).tq.tqRaw.toNat ∧ (post k).tq.tqRaw.toNat ≤ p.tqRawMax)) →
    ∀ k, p.mbCooldownTicks ≤ k → (post k).ctl.systemState = .noError

/-! ### TICK_BEGIN: policies, limits, caps -/

/-- Rule R12: the linear map primitive, and that its result lies between its two ends. -/
def Obligations.LinMap : Prop :=
  ∀ x inLo inHi outLo outHi : Nat, inLo < inHi →
    (x ≤ inLo → linMap x inLo inHi outLo outHi = outLo)
    ∧ (inHi ≤ x → linMap x inLo inHi outLo outHi = outHi)
    ∧ (inLo < x → x < inHi → outLo ≤ outHi →
        linMap x inLo inHi outLo outHi = outLo + (x - inLo) * (outHi - outLo) / (inHi - inLo))
    ∧ (inLo < x → x < inHi → outHi < outLo →
        linMap x inLo inHi outLo outHi = outLo - (x - inLo) * (outLo - outHi) / (inHi - inLo))
    ∧ min outLo outHi ≤ linMap x inLo inHi outLo outHi ∧ linMap x inLo inHi outLo outHi ≤ max outLo outHi

/-- Rules R300, R301, R316, R325, R326: MODE_POLICY in the modes OFF, WALK_ASSIST and MOTOR_CALIBRATION, the field-weakening bonus
included. -/
def Obligations.PolicyPlainModes : Prop :=
  ∀ s : State, (s.ctl.mode = .off ∨ s.ctl.mode = .walkAssist ∨ s.ctl.mode = .motorCalibration) →
    ∃ t, exec .modePolicy s = .next t
    ∧ t = { s with asst := { s.asst with cruiseActive := false }, work := { s.work with tgt := t.work.tgt } }
    ∧ ∃ bonus : Nat,
        ((s.cfg.fwEnabled = true ∧ s.cmd.flags.getLsbD 0 = true ∧ s.par.fwBonusMinAngle < s.snap.fwAngle.toNat) →
          bonus = s.snap.fwAngle.toNat * s.par.fwBonusNum / s.par.fwBonusDen)
        ∧ (¬(s.cfg.fwEnabled = true ∧ s.cmd.flags.getLsbD 0 = true ∧ s.par.fwBonusMinAngle < s.snap.fwAngle.toNat) →
          bonus = 0)
        ∧ (s.ctl.mode = .off →
          t.work.tgt = { i := bonus, dutyTgt := 0, up := s.par.rampUpDefault, down := s.par.rampDownDefault })
        ∧ (s.ctl.mode = .walkAssist → s.whl.wheelSpeedX10.toNat < s.par.walkSpeedMaxX10 →
          t.work.tgt = {
            i := s.par.walkIMax + bonus, dutyTgt := min s.ctl.modeParam.toNat s.par.walkDutyMax,
            up := s.par.walkRampUp, down := s.par.walkRampDown })
        ∧ (s.ctl.mode = .walkAssist → s.par.walkSpeedMaxX10 ≤ s.whl.wheelSpeedX10.toNat →
          t.work.tgt = { i := bonus, dutyTgt := 0, up := s.par.walkRampUp, down := s.par.walkRampDown })
        ∧ (s.ctl.mode = .motorCalibration →
          t.work.tgt = {
            i := s.par.iAdcMax, dutyTgt := min s.ctl.modeParam.toNat s.par.calDutyMax,
            up := s.par.calRampUp, down := s.par.calRampDown })

/-- Rules R303 to R310, R312, R313, R326: MODE_POLICY in POWER_ASSIST and eMTB_ASSIST: the target current from pedal power or from the
curve, the minimum-current floor, the duty target and the ramp periods. -/
def Obligations.PolicyAssistModes : Prop :=
  ∀ s : State, (s.ctl.mode = .powerAssist ∨ s.ctl.mode = .emtbAssist) → ∃ t, exec .modePolicy s = .next t
    ∧ t = { s with asst := { s.asst with cruiseActive := false }, work := { s.work with tgt := t.work.tgt } }
    ∧ ∃ cad raw floored bonus : Nat,
        ((s.ctl.mode = .powerAssist ∧ 0 < s.cfg.awprThreshold.toNat ∧ s.whl.wheelSpeedX10.toNat = 0
            ∧ s.cad.cadenceRpm.toNat = 0 ∧ s.cfg.awprThreshold.toNat < s.tq.tqDelta.toNat) → cad = s.par.cadSynthRpm)
        ∧ (¬(s.ctl.mode = .powerAssist ∧ 0 < s.cfg.awprThreshold.toNat ∧ s.whl.wheelSpeedX10.toNat = 0
            ∧ s.cad.cadenceRpm.toNat = 0 ∧ s.cfg.awprThreshold.toNat < s.tq.tqDelta.toNat) → cad = s.cad.cadenceRpm.toNat)
        ∧ (s.ctl.mode = .powerAssist → ∃ pm tm power : Nat,
            ((s.whl.wheelSpeedX10.toNat = 0 ∧ s.cfg.softStart = true) →
              pm = s.cfg.powerMultSoft.toNat ∧ tm = s.cfg.torqueMultSoft.toNat)
            ∧ (¬(s.whl.wheelSpeedX10.toNat = 0 ∧ s.cfg.softStart = true) →
              pm = s.cfg.powerMult.toNat ∧ tm = s.cfg.torqueMult.toNat)
            ∧ power =
                (if s.adc.vbatFilt.toNat = 0 then 0
                 else s.tq.torqueX100.toNat * cad / s.par.pedalPowerDiv * pm / s.par.powerMultDiv * 100000
                    / (s.adc.vbatFilt.toNat * s.par.mvPerVstep * s.par.maPerIstep))
            ∧ raw = (if s.cfg.hybrid = true then max power (s.tq.torqueX100.toNat * tm / s.par.torqueMultDiv) else power))
        ∧ (s.ctl.mode = .emtbAssist →
            raw = emtbRead s.par.emtbTable (min (max s.ctl.modeParam.toNat 1) 10 - 1) (min s.tq.tqDelta.toNat 240))
        ∧ floored =
            (if (0 < s.whl.wheelSpeedX10.toNat ∨ 0 < cad) ∧ raw < s.cfg.iMinFloor.toNat then s.cfg.iMinFloor.toNat else raw)
        ∧ bonus =
            (if s.cfg.fwEnabled = true ∧ s.cmd.flags.getLsbD 0 = true ∧ s.par.fwBonusMinAngle < s.snap.fwAngle.toNat then
              s.snap.fwAngle.toNat * s.par.fwBonusNum / s.par.fwBonusDen else 0)
        ∧ t.work.tgt.i = floored + bonus
        ∧ t.work.tgt.dutyTgt = (if 0 < floored then s.par.dutyMax else 0)
        ∧ ∃ upS upC downS downC : Nat,
            upS = linMap s.whl.wheelSpeedX10.toNat s.par.rampSpeedLo s.par.rampSpeedHi s.par.rampUpAtRest
              s.cfg.rampUpCap.toNat
            ∧ upC = linMap cad s.par.rampCadLo s.par.rampCadHi s.par.rampUpAtRest s.cfg.rampUpCap.toNat
            ∧ downS = linMap s.whl.wheelSpeedX10.toNat s.par.rampSpeedLo s.par.rampSpeedHi s.par.rampDownAtRest
              s.cfg.rampDownCap.toNat
            ∧ downC = linMap cad s.par.rampCadLo s.par.rampCadHi s.par.rampDownAtRest s.cfg.rampDownCap.toNat
            ∧ (s.par.rampCombine = .max → t.work.tgt.up = max upS upC ∧ t.work.tgt.down = max downS downC)
            ∧ (s.par.rampCombine = .min → t.work.tgt.up = min upS upC ∧ t.work.tgt.down = min downS downC)

/-- Rules R320 to R323: MODE_POLICY in CRUISE, with the gains of the motor type; integers, and the division by CRUISE_KI_DIV truncates
toward zero. -/
def Obligations.PolicyCruise : Prop :=
  ∀ s : State, s.par.wf = true → s.par.cruiseILimit < 2 ^ 31 → s.ctl.mode = .cruise → ∃ t, exec .modePolicy s = .next t
    ∧ t = { s with
        asst := { s.asst with
          cruiseActive := t.asst.cruiseActive, cruiseTargetX10 := t.asst.cruiseTargetX10,
          cruiseIntegral := t.asst.cruiseIntegral }
        work := { s.work with tgt := t.work.tgt } }
    ∧ t.work.tgt.up = s.par.cruiseRampUp ∧ t.work.tgt.down = s.par.cruiseRampDown
    ∧ ∃ bonus : Nat, bonus =
        (if s.cfg.fwEnabled = true ∧ s.cmd.flags.getLsbD 0 = true ∧ s.par.fwBonusMinAngle < s.snap.fwAngle.toNat then
          s.snap.fwAngle.toNat * s.par.fwBonusNum / s.par.fwBonusDen else 0)
      ∧ (s.whl.wheelSpeedX10.toNat ≤ s.par.cruiseSpeedMinX10 →
          t.asst = { s.asst with cruiseActive := false } ∧ t.work.tgt.i = bonus ∧ t.work.tgt.dutyTgt = 0)
      ∧ (s.par.cruiseSpeedMinX10 < s.whl.wheelSpeedX10.toNat → t.asst.cruiseActive = true
          ∧ t.work.tgt.i = (if s.cmd.hasIMax = true then s.cmd.iMax.toNat else s.cfg.iMax.toNat) + bonus
          ∧ (0 < s.ctl.modeParam.toNat → t.asst.cruiseTargetX10.toNat = s.ctl.modeParam.toNat * 10)
          ∧ (s.ctl.modeParam.toNat = 0 → t.asst.cruiseTargetX10 =
              (if s.asst.cruiseActive = true then s.asst.cruiseTargetX10 else s.whl.wheelSpeedX10))
          ∧ ∃ (kp ki : Nat) (err before out : Int),
              (s.cfg.motorType = .motorA → kp = s.par.cruiseKpA ∧ ki = s.par.cruiseKiA)
              ∧ (s.cfg.motorType = .motorB → kp = s.par.cruiseKpB ∧ ki = s.par.cruiseKiB)
              ∧ err = (t.asst.cruiseTargetX10.toNat : Int) - s.whl.wheelSpeedX10.toNat
              ∧ before = (if s.asst.cruiseActive = true then s.asst.cruiseIntegral.toInt else (s.par.cruiseISeed : Int))
              ∧ t.asst.cruiseIntegral.toInt =
                  min (max (before + Int.tdiv (ki * err) s.par.cruiseKiDiv) 0) s.par.cruiseILimit
              ∧ out = min (max (kp * err + t.asst.cruiseIntegral.toInt) 0) s.par.cruiseOutMax
              ∧ t.work.tgt.dutyTgt = linMap out.toNat 0 s.par.cruiseOutMax 0 s.par.dutyMax)

/-- Rules R109 and R118: each row of format MODE latches its code and runs the policy it selects; 6 to 255 are latched as OFF. -/
def Obligations.ModeRows : Prop :=
  (∀ r ∈ ([(.modeOff, .off), (.modePowerAssist, .powerAssist), (.modeEmtbAssist, .emtbAssist), (.modeWalkAssist, .walkAssist),
      (.modeCruise, .cruise), (.modeMotorCalibration, .motorCalibration)] : List (Instr × Mode)),
    ∀ s : State, ∃ t, exec r.1 s = .next t ∧ exec .modePolicy { s with ctl := { s.ctl with mode := r.2 } } = .next t
      ∧ t = { s with
          ctl := { s.ctl with mode := r.2 }
          asst := { s.asst with
            cruiseActive := t.asst.cruiseActive, cruiseTargetX10 := t.asst.cruiseTargetX10,
            cruiseIntegral := t.asst.cruiseIntegral }
          work := { s.work with tgt := t.work.tgt } }
      ∧ (r.2 ≠ .cruise → t.asst = { s.asst with cruiseActive := false }))
  ∧ (∀ (c : U8) (s : State), 6 ≤ c.toNat → ∃ t, exec (.modeReserved c) s = .next t
      ∧ exec .modePolicy { s with ctl := { s.ctl with mode := .off } } = .next t ∧ t.ctl.mode = .off)

/-- Rules R327, R328, R331, R332, R336: POST_PROCESS: the branch of the effective optional-ADC function `f` (rule R41), then the speed
limit; with the current ceiling `cap` of rule R302 and the reference temperature of rule R331 written out. A temperature above 16 bits, which
only an open TEMP_FROM_ADC can give, saturates in `aux_value` (rule R445, log entry 8). -/
def Obligations.PostProcess : Prop :=
  ∀ (s : State) (x : U12) (f : AuxFunction) (cap : Nat), s.par.wf = true → x.toNat ≤ s.par.adcAuxMaxSample →
    f = (if s.cmd.hasAuxFunction = true then s.cmd.auxFunction else s.cfg.auxFunction) → f ≠ .reserved →
    cap = min (min s.par.iAdcMax (if s.cmd.hasIMax = true then s.cmd.iMax.toNat else s.cfg.iMax.toNat))
      (if s.adc.vbatFilt.toNat = 0 then 0
       else (if s.cmd.hasPowerMax = true then s.cmd.powerMaxW.toNat else s.cfg.powerMaxW.toNat) * 1000000
          / (s.adc.vbatFilt.toNat * s.par.mvPerVstep * s.par.maPerIstep)) →
    ∃ t, exec (.postProcess x) s = .next t
    ∧ t = { s with asst := { s.asst with auxValue := t.asst.auxValue }, work := { s.work with tgt := t.work.tgt } }
    ∧ (s.par.tempFromAdc = .reference → tempFromAdc s.par x.toNat = min x.toNat 255)
    ∧ ∃ mid : Targets,
        (f = .noFunction → t.asst.auxValue = 0 ∧ mid = s.work.tgt)
        ∧ (f = .throttle →
            t.asst.auxValue.toNat = linMap x.toNat s.par.thrAdcMin s.par.thrAdcMax 0 255
            ∧ (linMap x.toNat s.par.thrAdcMin s.par.thrAdcMax 0 cap ≤ s.work.tgt.i → mid = s.work.tgt)
            ∧ (s.work.tgt.i < linMap x.toNat s.par.thrAdcMin s.par.thrAdcMax 0 cap →
              mid = { i := linMap x.toNat s.par.thrAdcMin s.par.thrAdcMax 0 cap
                      dutyTgt := s.par.dutyMax
                      up := linMap s.whl.wheelSpeedX10.toNat s.par.thrSpeedLo s.par.thrSpeedHi s.par.thrRampUpLo
                        s.par.thrRampUpHi
                      down := s.par.thrRampDown }))
        ∧ (f = .temperature →
            t.asst.auxValue.toNat = min (tempFromAdc s.par x.toNat) 65535
            ∧ (s.cfg.tempMax.toNat ≤ s.cfg.tempMin.toNat → mid = { s.work.tgt with i := 0 })
            ∧ (s.cfg.tempMin.toNat < s.cfg.tempMax.toNat → mid = { s.work.tgt with
                i := linMap (tempFromAdc s.par x.toNat) s.cfg.tempMin.toNat s.cfg.tempMax.toNat s.work.tgt.i 0 }))
        ∧ ∃ m : Nat, m = (if s.cmd.hasSpeedMax = true then s.cmd.speedMax.toNat else s.cfg.speedMax.toNat)
          ∧ (m ≤ 50 → t.work.tgt = { mid with
              i := linMap s.whl.wheelSpeedX10.toNat ((m - s.par.speedWin) * 10) ((m + s.par.speedWin) * 10) mid.i 0 })
          ∧ (50 < m → t.work.tgt = { mid with
              i := linMap (s.whl.wheelSpeedX10.toNat / 10) (m - s.par.speedWin) (m + s.par.speedWin) mid.i 0 })

/-- Rules R112, R328, R331, R332: the rows of format AUXF. Where the effective optional-ADC function `f` (rule R41) is the row's own, it
completes with the effect of its branch, before the speed limit; the row of another function is refused (log entry 2). A temperature above
16 bits, which only an open TEMP_FROM_ADC can give, saturates in `aux_value` (rule R445, log entry 8). -/
def Obligations.AuxRows : Prop :=
  ∀ (s : State) (x : U12) (f : AuxFunction) (cap : Nat), s.par.wf = true → x.toNat ≤ s.par.adcAuxMaxSample →
    f = (if s.cmd.hasAuxFunction = true then s.cmd.auxFunction else s.cfg.auxFunction) →
    cap = min (min s.par.iAdcMax (if s.cmd.hasIMax = true then s.cmd.iMax.toNat else s.cfg.iMax.toNat))
      (if s.adc.vbatFilt.toNat = 0 then 0
       else (if s.cmd.hasPowerMax = true then s.cmd.powerMaxW.toNat else s.cfg.powerMaxW.toNat) * 1000000
          / (s.adc.vbatFilt.toNat * s.par.mvPerVstep * s.par.maPerIstep)) →
    (f = .noFunction → exec .auxfNone s = .next { s with asst := { s.asst with auxValue := 0 } })
    ∧ (f = .throttle → ∃ t, exec (.auxfThrottle x) s = .next t
      ∧ t = { s with asst := { s.asst with auxValue := t.asst.auxValue }, work := { s.work with tgt := t.work.tgt } }
      ∧ t.asst.auxValue.toNat = linMap x.toNat s.par.thrAdcMin s.par.thrAdcMax 0 255
      ∧ (linMap x.toNat s.par.thrAdcMin s.par.thrAdcMax 0 cap ≤ s.work.tgt.i → t.work.tgt = s.work.tgt)
      ∧ (s.work.tgt.i < linMap x.toNat s.par.thrAdcMin s.par.thrAdcMax 0 cap →
        t.work.tgt = {
          i := linMap x.toNat s.par.thrAdcMin s.par.thrAdcMax 0 cap
          dutyTgt := s.par.dutyMax
          up := linMap s.whl.wheelSpeedX10.toNat s.par.thrSpeedLo s.par.thrSpeedHi s.par.thrRampUpLo s.par.thrRampUpHi
          down := s.par.thrRampDown }))
    ∧ (f = .temperature → ∃ t, exec (.auxfTemperature x) s = .next t
      ∧ t = { s with
          asst := { s.asst with auxValue := t.asst.auxValue }
          work := { s.work with tgt := { s.work.tgt with i := t.work.tgt.i } } }
      ∧ t.asst.auxValue.toNat = min (tempFromAdc s.par x.toNat) 65535
      ∧ (s.par.tempFromAdc = .reference → tempFromAdc s.par x.toNat = min x.toNat 255)
      ∧ (s.cfg.tempMax.toNat ≤ s.cfg.tempMin.toNat → t.work.tgt.i = 0)
      ∧ (s.cfg.tempMin.toNat < s.cfg.tempMax.toNat → t.work.tgt.i =
          linMap (tempFromAdc s.par x.toNat) s.cfg.tempMin.toNat s.cfg.tempMax.toNat s.work.tgt.i 0))
    ∧ (f ≠ .noFunction → exec .auxfNone s = .refused .codeNotHeld)
    ∧ (f ≠ .throttle → exec (.auxfThrottle x) s = .refused .codeNotHeld)
    ∧ (f ≠ .temperature → exec (.auxfTemperature x) s = .refused .codeNotHeld)

/-- Rules R302, R340 to R344: the caps, the ramp floor, the fault gate and the staging. -/
def Obligations.GlobalCaps : Prop :=
  ∀ s : State, s.par.wf = true → ∃ t, exec .globalCaps s = .next t
    ∧ t = { s with
        work := { s.work with tgt := t.work.tgt }
        pend := { s.pend with
          iTarget := t.pend.iTarget, dutyTarget := t.pend.dutyTarget, rampUpPeriod := t.pend.rampUpPeriod,
          rampDownPeriod := t.pend.rampDownPeriod } }
    ∧ ∃ cap i up : Nat,
        cap = min (min s.par.iAdcMax (if s.cmd.hasIMax = true then s.cmd.iMax.toNat else s.cfg.iMax.toNat))
          (if s.adc.vbatFilt.toNat = 0 then 0
           else (if s.cmd.hasPowerMax = true then s.cmd.powerMaxW.toNat else s.cfg.powerMaxW.toNat) * 1000000
              / (s.adc.vbatFilt.toNat * s.par.mvPerVstep * s.par.maPerIstep))
        ∧ i = min s.work.tgt.i cap
        ∧ up = min (max s.work.tgt.up s.par.rampUpMin) 255
        ∧ t.pend.rampUpPeriod.toNat =
            (if s.cmd.hasAccel = true then up - (up - s.par.rampUpMin) * min s.cmd.accel.toNat 100 / 100 else up)
        ∧ (s.ctl.systemState = .noError → t.pend.iTarget.toNat = i
            ∧ t.pend.dutyTarget.toNat = (if i = 0 then 0 else min s.work.tgt.dutyTgt s.par.dutyMax)
            ∧ t.pend.rampDownPeriod.toNat = min (max s.work.tgt.down s.par.rampDownMin) 255)
        ∧ (s.ctl.systemState ≠ .noError → t.pend.iTarget.toNat = 0 ∧ t.pend.dutyTarget.toNat = 0
            ∧ t.pend.rampDownPeriod.toNat = s.par.rampDownMin)
        ∧ (t.work.tgt = {
            i := t.pend.iTarget.toNat, dutyTgt := t.pend.dutyTarget.toNat,
            up := t.pend.rampUpPeriod.toNat, down := t.pend.rampDownPeriod.toNat })

/-- Rule R345: what one control tick guarantees of the targets it stages: within the current ceilings, zero together, zero under a fault,
zero when the temperature limits are misconfigured; and no torque, no assist: in POWER_ASSIST and eMTB_ASSIST a torque delta of 0 stages a
zero current, but for the floor, the field-weakening bonus and an override of the throttle, for eMTB under the hypothesis
EMTB_ZERO_AT_ZERO on the table (rule R313); the throttle never lowers the current, the temperature and speed limiters never raise it,
whichever function the optional ADC channel has (the branch before the speed limit seen through its AUXF row, log entry 2). -/
def Obligations.TickTargets : Prop :=
  (∀ (s t : State) (x q : U12), s.par.wf = true → exec (.tickBegin x q) s = .next t → StagedTargetsSafe x s t)
  ∧ (∀ (s : State) (x : U12), s.par.wf = true → x.toNat ≤ s.par.adcAuxMaxSample →
      ∀ r ∈ ([(.auxfNone, .noFunction), (.auxfThrottle x, .throttle), (.auxfTemperature x, .temperature)] :
        List (Instr × AuxFunction)),
        r.2 = (if s.cmd.hasAuxFunction = true then s.cmd.auxFunction else s.cfg.auxFunction) →
        ∃ u t, exec r.1 s = .next u ∧ exec (.postProcess x) s = .next t ∧ LimitersSafe r.2 s u t)
  ∧ (∀ (s t : State) (x : U12), exec (.auxfThrottle x) s = .next t → s.work.tgt.i ≤ t.work.tgt.i)
  ∧ (∀ (s t : State) (x : U12), s.par.wf = true → exec (.postProcess x) s = .next t → (if s.cmd.hasAuxFunction = true then s.cmd.auxFunction else s.cfg.auxFunction) ≠ .throttle →
      t.work.tgt.i ≤ s.work.tgt.i)

/-! ### TICK_BEGIN: phase advance and telemetry -/

/-- Rules R180 to R184: the gate, the arcsine step and the filter of the phase advance; with the reference argument of rule R183 written out. -/
def Obligations.FocUpdate : Prop :=
  ∀ s : State, s.par.wf = true → s.foc.focAcc.toNat ≤ 255 * 2 ^ s.par.focShift → ∃ t, exec .focUpdate s = .next t
    ∧ t = { s with foc := { s.foc with focAcc := t.foc.focAcc }, pend := { s.pend with focAngle := t.pend.focAngle } }
    ∧ ∃ (cond : Prop) (target : Nat),
        (cond ↔ s.snap.duty.toNat < s.par.focDutyLow ∨ s.snap.ibatFilt.toNat < s.par.focILow
          ∨ s.snap.erps.toNat < s.par.focErpsBandLo ∨ s.par.focErpsBandHi < s.snap.erps.toNat)
        ∧ ((s.par.focGateSense = .engage ∧ ¬cond) ∨ (s.par.focGateSense = .suppress ∧ cond) → target = 0)
        ∧ ((s.par.focGateSense = .engage ∧ cond) ∨ (s.par.focGateSense = .suppress ∧ ¬cond) →
            target = asinRead s.par.asinTable
              (min (focArg s.par s.cfg.motorType s.snap.duty.toNat s.snap.ibatFilt.toNat s.snap.erps.toNat) 127))
        ∧ t.foc.focAcc.toNat = s.foc.focAcc.toNat - s.foc.focAcc.toNat / 2 ^ s.par.focShift + target
        ∧ t.pend.focAngle.toNat = t.foc.focAcc.toNat / 2 ^ s.par.focShift
        ∧ t.foc.focAcc.toNat ≤ 255 * 2 ^ s.par.focShift
        ∧ (s.par.focArg = .reference →
            focArg s.par s.cfg.motorType s.snap.duty.toNat s.snap.ibatFilt.toNat s.snap.erps.toNat =
              (if s.snap.duty.toNat = 0 then 127
               else min ((if s.cfg.motorType = .motorA then s.par.focKA else s.par.focKB) * s.snap.ibatFilt.toNat
                  * s.snap.erps.toNat / 128 / s.snap.duty.toNat) 127))

/-- Rules R111 (with R142 and R161) and R113 (with R181 and R323): the rows of formats CMODE and MTYPE run what their code selects; the row of
a code that is not held is refused (log entry 2). -/
def Obligations.CmodeMtypeRows : Prop :=
  ((∀ s : State, s.rotor.commMode = .blocked →
      exec .cmodeBlocked s = .next { s with rotor := { s.rotor with erps := 0 }, work := { s.work with interp := 0 } }
      ∧ exec .cmodeInterpolated s = .refused .codeNotHeld)
    ∧ (∀ s : State, s.rotor.commMode = .interpolated → ∃ a t,
      exec .erpsDerive s = .next a ∧ exec .interp a = .next t ∧ exec .cmodeInterpolated s = .next t
      ∧ exec .cmodeBlocked s = .refused .codeNotHeld))
  ∧ (∀ r ∈ ([(.mtypeMotorA, .motorA), (.mtypeMotorB, .motorB)] : List (Instr × MotorType)),
      (∀ s : State, s.cfg.motorType = r.2 → ∃ u t, exec r.1 s = .next t ∧ exec .focUpdate u = .next t
        ∧ (s.ctl.mode ≠ .cruise → u = s)
        ∧ (s.ctl.mode = .cruise → ∃ v, exec .modePolicy s = .next v
            ∧ u = { s with asst := v.asst, work := { s.work with tgt := u.work.tgt } }
            ∧ u.work.tgt.dutyTgt = v.work.tgt.dutyTgt))
      ∧ (∀ s : State, s.cfg.motorType ≠ r.2 → exec r.1 s = .refused .codeNotHeld))

/-- Rule R364: the telemetry record staged. -/
def Obligations.TelemetryStage : Prop :=
  ∀ (s : State) (x : U12), s.par.wf = true → x.toNat ≤ s.par.adcAuxMaxSample → s.snap.duty.toNat ≤ s.par.dutyMax →
    ∃ t, exec (.telemetryStage x) s = .next t
    ∧ t = { s with pend := { s.pend with tlm := t.pend.tlm } }
    ∧ t.pend.tlm.vbatFilt = s.adc.vbatFilt ∧ t.pend.tlm.ibatFilt = s.snap.ibatFilt
    ∧ t.pend.tlm.wheelSpeedX10 = s.whl.wheelSpeedX10 ∧ t.pend.tlm.brake = s.snap.brake
    ∧ t.pend.tlm.auxRaw.toNat = x.toNat ∧ t.pend.tlm.auxValue = s.asst.auxValue
    ∧ t.pend.tlm.cadenceRpm = s.cad.cadenceRpm
    ∧ t.pend.tlm.dutyPct.toNat = s.snap.duty.toNat * 100 / s.par.dutyMax
    ∧ (t.pend.tlm.dutyPct.toNat = 100 ↔ s.snap.duty.toNat = s.par.dutyMax)
    ∧ t.pend.tlm.erps = s.snap.erps ∧ t.pend.tlm.focAngle = s.pend.focAngle
    ∧ (s.ctl.systemState = .noError → t.pend.tlm.faultCode = 0) ∧ (s.ctl.systemState = .motorBlocked → t.pend.tlm.faultCode = 1)
    ∧ (s.ctl.systemState = .torqueSensorFault → t.pend.tlm.faultCode = 2)
    ∧ (s.ctl.systemState = .commLost → t.pend.tlm.faultCode = 3)
    ∧ t.pend.tlm.whlTotal = s.snap.whlTotal ∧ t.pend.tlm.torqueX100 = s.tq.torqueX100
    ∧ (s.ctl.mode = .motorCalibration → t.pend.tlm.hasCal = true ∧ t.pend.tlm.calTicks = s.snap.calTicks)
    ∧ (s.ctl.mode ≠ .motorCalibration → t.pend.tlm.hasCal = false ∧ t.pend.tlm.calTicks = zeroTicks)

/-- Rules R103 and R355: TICK_BEGIN is its twelve sub-operations in order on the state with the tick open, its locals gone at the end; a
second one is refused while the tick is open (rule R434). -/
def Obligations.TickBegin : Prop :=
  ∀ (s : State) (x q : U12), s.asst.cfgValid = true → x.toNat ≤ s.par.adcAuxMaxSample → q.toNat ≤ s.par.adcTMaxSample →
    (s.asst.tickOpen = true → exec (.tickBegin x q) s = .refused .tickAlreadyOpen)
    ∧ (s.asst.tickOpen = false → ∃ a b c d e f g h j k l m,
      exec .cmdLatch { s with asst := { s.asst with tickOpen := true } } = .next a ∧ exec .snapshot a = .next b
      ∧ exec .vbatFilter b = .next c ∧ exec .whlSpeed c = .next d ∧ exec .cadRpm d = .next e
      ∧ exec (.tqAcquire q) e = .next f ∧ exec .faultDetect f = .next g ∧ exec .modePolicy g = .next h
      ∧ exec (.postProcess x) h = .next j ∧ exec .globalCaps j = .next k ∧ exec .focUpdate k = .next l
      ∧ exec (.telemetryStage x) l = .next m ∧ exec (.tickBegin x q) s = .next { m with work := Work.zero })

/-! ### TICK_END -/

/-- Rule R362: the hysteresis of the PWM output, and what a re-enable writes. -/
def Obligations.PwmGate : Prop :=
  ∀ s : State, s.par.wf = true →
    ((s.out.pwmEnabled = false ∧ s.rotor.erps.toNat < s.par.erpsEnableMax ∧ 0 < s.drive.iTarget.toNat ∧ s.adc.brake = false) →
      ∃ t, exec .pwmGate s = .next t
      ∧ t = { s with
          out := { s.out with pwmEnabled := true }
          drive := { s.drive with
            duty := t.drive.duty, fwAngle := 0, rampUpPeriod := t.drive.rampUpPeriod, rampDownPeriod := t.drive.rampDownPeriod,
            rampUpCnt := 0, rampDownCnt := 0 } }
      ∧ t.drive.duty.toNat = s.par.dutyStartup ∧ t.drive.rampUpPeriod.toNat = s.par.rampUpMin
      ∧ t.drive.rampDownPeriod.toNat = s.par.rampDownMin)
    ∧ ((s.out.pwmEnabled = true ∧ s.rotor.erps.toNat = 0 ∧ s.drive.iTarget.toNat = 0 ∧ s.drive.duty.toNat = 0) →
      exec .pwmGate s = .next { s with out := { s.out with pwmEnabled := false } })
    ∧ (¬(s.out.pwmEnabled = false ∧ s.rotor.erps.toNat < s.par.erpsEnableMax ∧ 0 < s.drive.iTarget.toNat ∧ s.adc.brake = false) →
      ¬(s.out.pwmEnabled = true ∧ s.rotor.erps.toNat = 0 ∧ s.drive.iTarget.toNat = 0 ∧ s.drive.duty.toNat = 0) →
      exec .pwmGate s = .next s)

/-- Rules R103 and R358: TICK_END publishes, gates the output, sends the telemetry and closes the tick; it is refused when no tick is open
(rule R434). -/
def Obligations.TickEnd : Prop :=
  ∀ s : State, s.asst.cfgValid = true →
    (s.asst.tickOpen = false → exec .tickEnd s = .refused .tickNotOpen)
    ∧ (s.asst.tickOpen = true → ∃ a b, exec .publish s = .next a ∧ exec .pwmGate a = .next b
      ∧ exec .tickEnd s = .next { b with
          out := { b.out with tlm := s.pend.tlm }, asst := { b.asst with tickOpen := false } })

/-- Rule R363: no chatter: while the current target stays zero, or stays nonzero, the gate changes the output at most once in a run of
TICK_END steps. -/
def Obligations.NoChatter : Prop :=
  ∀ (run next : Nat → State), (∀ k, exec .pwmGate (run k) = .next (next k)) →
    (∀ k, (run (k + 1)).out.pwmEnabled = (next k).out.pwmEnabled) →
    ((∀ k, (run k).drive.iTarget.toNat = 0) ∨ (∀ k, 0 < (run k).drive.iTarget.toNat)) →
    ∀ a b, a < b → (next a).out.pwmEnabled ≠ (run a).out.pwmEnabled → (next b).out.pwmEnabled = (run b).out.pwmEnabled

/-! ### Bounds over runs -/

/-- Rule R210, the fail-safe bound: if the brake is engaged at every PWM_RISING of a run and its bit forces the fast ramp, the duty cycle
and the field-weakening offset are zero after at most (duty + fw_angle) * RAMP_DOWN_MIN steps, counted from the first in direction DOWN. `run k` is
the state before the k-th PWM_RISING and `post k` the state after; between them other events may fall, which leave the ramp's
four registers alone (no re-enable of the output). -/
def Obligations.BrakeRampsToZero : Prop :=
  ∀ (run post : Nat → State) (v i : Nat → U12) (whl : Nat → Bool) (pas : Nat → U2) (p : Params),
    p.wf = true → p.forceFastMask.getLsbD 5 = true → (∀ k, (run k).par = p) →
    (∀ k, exec (.pwmRising (v k) (i k) true (whl k) (pas k)) (run k) = .next (post k)) →
    (∀ k, (run (k + 1)).drive.duty = (post k).drive.duty ∧ (run (k + 1)).drive.fwAngle = (post k).drive.fwAngle
      ∧ (run (k + 1)).drive.rampDownCnt = (post k).drive.rampDownCnt) →
    (run 0).drive.rampDownCnt = 0 →
    ∀ k, ((run 0).drive.duty.toNat + (run 0).drive.fwAngle.toNat) * p.rampDownMin ≤ k →
      (run k).drive.duty.toNat = 0 ∧ (run k).drive.fwAngle.toNat = 0

/-- Rule R252 (i): if the PAS pins do not change for cad_stop_min + 1 consecutive steps, at the end of the last the cadence ticks are zero
and there is no reference; unless the timeout is 65535, which rule R249 says never elapses. -/
def Obligations.CadenceStops : Prop :=
  ∀ (run : Nat → State) (pas : U2), (run 0).cad.pasOld = pas → (run 0).cad.cadStopMin.toNat < 65535 →
    (∀ k, exec (.cadStep pas) (run k) = .next (run (k + 1))) →
    ∀ k, (run 0).cad.cadStopMin.toNat + 1 ≤ k → (run k).cad.cadTicks.toNat = 0 ∧ (run k).cad.cadRef = none

/-! ### Tables -/

/-- Rules R70, R74, R87: a read of a given table returns its entry at the index, clamped to the last entry where the table does not wrap,
unchanged; the fixtures of `95_test_vectors.md` section 1.1 have the entries written there. -/
def Obligations.TableReads : Prop :=
  (∀ (v : Vector U8 256) (idx : U8), svmRead (.given v) idx = (v[idx.toNat]'idx.isLt).toNat)
  ∧ (∀ (v : Vector U8 128) (a : Nat) (h : a < 128), asinRead (.given v) a = v[a].toNat)
  ∧ (∀ (v : Vector U8 128) (a : Nat), 128 ≤ a → asinRead (.given v) a = v[127].toNat)
  ∧ (∀ (v : Vector (Vector U16 241) 10) (c p : Nat) (hc : c < 10) (hp : p < 241), emtbRead (.given v) c p = v[c][p].toNat)
  ∧ (∀ (t : EmtbTable) (c p : Nat), 10 ≤ c → emtbRead t c p = emtbRead t 9 p)
  ∧ (∀ (t : EmtbTable) (c p : Nat), 241 ≤ p → emtbRead t c p = emtbRead t c 240)
  ∧ (∀ idx : U8, (idx.toNat ≤ 64 → svmRead .fixture idx = 107 + idx.toNat)
    ∧ (64 < idx.toNat → idx.toNat ≤ 192 → svmRead .fixture idx = 107 + 128 - idx.toNat)
    ∧ (192 < idx.toNat → svmRead .fixture idx = 107 + idx.toNat - 256))
  ∧ (∀ a < 128, asinRead .fixture a = a / 2) ∧ (∀ c < 10, ∀ p < 241, emtbRead .fixture c p = p * p * (c + 1) / 5760)

/-! ### The start of the cadence -/

/-- Rules R244 to R246, R252 (iv): from a state with no reference and cadence ticks of 0, in a run of cadence steps with no backward
transition and no timeout (a timeout is what leaves `cad_stop_cnt` at 0, rule R241), `c k` being the forward transitions of the first
`k` steps: the ticks stay 0 through the first, are the startup value from the second to the fourth, and from the fifth to the eighth
are the steps from the first to the fifth, at least 4 of them (saturated at 16 bits, rule R249). -/
def Obligations.CadenceStarts : Prop :=
  ∀ (run : Nat → State) (pas : Nat → U2) (c : Nat → Nat) (n : Nat), (run 0).par.wf = true →
    (run 0).cad.cadRef = none → (run 0).cad.cadTicks = 0 → (∀ k, exec (.cadStep (pas k)) (run k) = .next (run (k + 1))) →
    c 0 = 0 → (∀ k, c (k + 1) = c k + (if pas k = (run k).cad.pasOld then 0 else 1)) →
    (∀ k < n, pas k = (run k).cad.pasOld ∨ (run 0).par.pasPrev (pas k) = (run k).cad.pasOld) →
    (∀ k < n, (run (k + 1)).cad.cadStopCnt ≠ 0) →
    (c n = 0 → (run n).cad.cadRef = none)
    ∧ (c n ≤ 1 → (run n).cad.cadTicks.toNat = 0)
    ∧ (2 ≤ c n → c n ≤ 4 → (run n).cad.cadTicks.toNat = (run 0).par.cadTicksStartup ∧ (run n).cad.cadTicks.toNat ≠ 0)
    ∧ (∀ a b, b < n → c a = 0 → c (a + 1) = 1 → c b = 4 → c (b + 1) = 5 → c n ≤ 8 →
      a + 4 ≤ b ∧ (run n).cad.cadTicks.toNat = min (b - a) 65535 ∧ (run n).cad.cadRef = some (pas a) ∧ pas b = pas a)
end

