-- ==== Sys2Proof/Laws/Arith.lean ====
section
/-! SUPPORT. What the arithmetic primitives can do, each said once. -/

namespace Sys2Proof.Laws

open Sys2Proof.Machine

/-- `sat` stores the value, or the largest value of the register (rule R10). -/
theorem sat_toNat (n v : Nat) : (sat n v).toNat = min v (2 ^ n - 1) := by
  have h : 0 < 2 ^ n := Nat.two_pow_pos n
  simp only [sat, BitVec.toNat_ofNat]
  exact Nat.mod_eq_of_lt (by omega)

/-- A value that fits its register is stored unchanged. -/
theorem sat_toNat_of_lt (n v : Nat) (h : v < 2 ^ n) : (sat n v).toNat = v := by
  rw [sat_toNat]; omega

/-- `satI32` stores the value, or the nearest end of the register. -/
theorem satI32_toInt (v : Int) : (satI32 v).toInt = min (max v (-2147483648)) 2147483647 := by
  simp only [satI32, BitVec.toInt_ofInt]
  apply Int.bmod_eq_of_le <;> omega

/-- A value between the ends of the register is stored unchanged. -/
theorem satI32_toInt_of_range (v : Int) (h : -2147483648 ≤ v) (h' : v ≤ 2147483647) : (satI32 v).toInt = v := by
  rw [satI32_toInt]; omega

/-- A clamp lies between its bounds. -/
theorem clampNat_bounds (v lo hi : Nat) (h : lo ≤ hi) : lo ≤ clampNat v lo hi ∧ clampNat v lo hi ≤ hi := by
  simp only [clampNat]; omega

/-- A clamp of an integer lies between its bounds. -/
theorem clampInt_bounds (v lo hi : Int) (h : lo ≤ hi) : lo ≤ clampInt v lo hi ∧ clampInt v lo hi ≤ hi := by
  simp only [clampInt]; omega

/-- What a filter step keeps of an accumulator never decreases with the accumulator. -/
theorem sub_shr_mono (k a b : Nat) (h : a ≤ b) : a - shr a k ≤ b - shr b k := by
  have hp : 0 < 2 ^ k := Nat.two_pow_pos k
  simp only [shr]
  have ha := Nat.div_add_mod a (2 ^ k)
  have hb := Nat.div_add_mod b (2 ^ k)
  have hq : a / 2 ^ k ≤ b / 2 ^ k := Nat.div_le_div_right h
  have hra := Nat.mod_lt a hp
  have hrb := Nat.mod_lt b hp
  rcases Nat.eq_or_lt_of_le hq with he | hl
  · omega
  · have h1 : 2 ^ k * (a / 2 ^ k + 1) ≤ 2 ^ k * (b / 2 ^ k) := Nat.mul_le_mul_left _ hl
    have h2 : (2 ^ k - 1) * (a / 2 ^ k + 1) ≤ (2 ^ k - 1) * (b / 2 ^ k) := Nat.mul_le_mul_left _ hl
    have e1 : 2 ^ k * (a / 2 ^ k) = (2 ^ k - 1) * (a / 2 ^ k) + a / 2 ^ k := by
      rw [← Nat.succ_mul]; congr 1; omega
    have e2 : 2 ^ k * (b / 2 ^ k) = (2 ^ k - 1) * (b / 2 ^ k) + b / 2 ^ k := by
      rw [← Nat.succ_mul]; congr 1; omega
    have e3 : (2 ^ k - 1) * (a / 2 ^ k + 1) = (2 ^ k - 1) * (a / 2 ^ k) + (2 ^ k - 1) := Nat.mul_succ _ _
    omega

/-- The bound of a shift-based filter: an accumulator and samples within `m` full scales stay within (rules R184, R289, R360). -/
theorem lowPass_le (k m acc x : Nat) (ha : acc ≤ m * 2 ^ k) (hx : x ≤ m) : lowPass k acc x ≤ m * 2 ^ k := by
  have h := sub_shr_mono k acc (m * 2 ^ k) ha
  have hs : shr (m * 2 ^ k) k = m := Nat.mul_div_cancel m (Nat.two_pow_pos k)
  have hm : m ≤ m * 2 ^ k := Nat.le_mul_of_pos_right m (Nat.two_pow_pos k)
  simp only [lowPass]
  omega

end Sys2Proof.Laws
end

