-- ==== Sys2Proof/Laws/PerInstr.lean ====
section
/-! SUPPORT. The family WfEncodable, one lemma per constructor: a well-formed instruction is one that its encoding admits, so what is
said of every encodable instruction holds of every well-formed one. -/

namespace Sys2Proof.Laws.WfEncodable

/-- Under every parameter set, an instruction that is well-formed is encodable. -/
def Statement (i : Instr) : Prop := ∀ p : Params, i.wf p = true → i.encodable = true

theorem reset : Statement .reset := fun _ _ => rfl
theorem cfgLoad (record : CfgRec) : Statement (.cfgLoad record) := fun _ _ => rfl
theorem cmdRx (record : CmdRec) : Statement (.cmdRx record) := fun _ _ => rfl
theorem hallEdge (tick : U16) (hall : U3) : Statement (.hallEdge tick hall) := fun _ _ => rfl
theorem pwmRising (adcVbat : U12) (adcIbat : U12) (brake : Bool) (whl : Bool) (pas : U2) : Statement (.pwmRising adcVbat adcIbat brake whl pas) := fun _ _ => rfl
theorem pwmFalling (tick : U16) : Statement (.pwmFalling tick) := fun _ _ => rfl
theorem tickBegin (adcAux : U12) (adcTorque : U12) : Statement (.tickBegin adcAux adcTorque) := fun _ _ => rfl
theorem tickEnd : Statement .tickEnd := fun _ _ => rfl
theorem evReserved (low : BitVec 31) : Statement (.evReserved low) := fun _ _ => rfl
theorem ibatFilter (adcIbat : U12) : Statement (.ibatFilter adcIbat) := fun _ _ => rfl
theorem pinLatch (adcVbat : U12) (brake : Bool) : Statement (.pinLatch adcVbat brake) := fun _ _ => rfl
theorem cadStep (pas : U2) : Statement (.cadStep pas) := fun _ _ => rfl
theorem whlStep (whl : Bool) : Statement (.whlStep whl) := fun _ _ => rfl
theorem rampStep : Statement .rampStep := fun _ _ => rfl
theorem stallCheck (tick : U16) : Statement (.stallCheck tick) := fun _ _ => rfl
theorem erpsDerive : Statement .erpsDerive := fun _ _ => rfl
theorem interp : Statement .interp := fun _ _ => rfl
theorem svmSynth : Statement .svmSynth := fun _ _ => rfl
theorem cmpCommit : Statement .cmpCommit := fun _ _ => rfl
theorem cmdLatch : Statement .cmdLatch := fun _ _ => rfl
theorem snapshot : Statement .snapshot := fun _ _ => rfl
theorem vbatFilter : Statement .vbatFilter := fun _ _ => rfl
theorem whlSpeed : Statement .whlSpeed := fun _ _ => rfl
theorem cadRpm : Statement .cadRpm := fun _ _ => rfl
theorem tqAcquire (adcTorque : U12) : Statement (.tqAcquire adcTorque) := fun _ _ => rfl
theorem faultDetect : Statement .faultDetect := fun _ _ => rfl
theorem modePolicy : Statement .modePolicy := fun _ _ => rfl
theorem postProcess (adcAux : U12) : Statement (.postProcess adcAux) := fun _ _ => rfl
theorem globalCaps : Statement .globalCaps := fun _ _ => rfl
theorem focUpdate : Statement .focUpdate := fun _ _ => rfl
theorem telemetryStage (adcAux : U12) : Statement (.telemetryStage adcAux) := fun _ _ => rfl
theorem publish : Statement .publish := fun _ _ => rfl
theorem pwmGate : Statement .pwmGate := fun _ _ => rfl
theorem hallS0 (tick : U16) : Statement (.hallS0 tick) := fun _ _ => rfl
theorem hallS1 (tick : U16) : Statement (.hallS1 tick) := fun _ _ => rfl
theorem hallS2 (tick : U16) : Statement (.hallS2 tick) := fun _ _ => rfl
theorem hallS3 (tick : U16) : Statement (.hallS3 tick) := fun _ _ => rfl
theorem hallS4 (tick : U16) : Statement (.hallS4 tick) := fun _ _ => rfl
theorem hallS5 (tick : U16) : Statement (.hallS5 tick) := fun _ _ => rfl
theorem hallInv0 (tick : U16) : Statement (.hallInv0 tick) := fun _ _ => rfl
theorem hallInv7 (tick : U16) : Statement (.hallInv7 tick) := fun _ _ => rfl
theorem pas00Same : Statement .pas00Same := fun _ _ => rfl
theorem pas01Bwd : Statement .pas01Bwd := fun _ _ => rfl
theorem pas02Fwd : Statement .pas02Fwd := fun _ _ => rfl
theorem pas03Bwd : Statement .pas03Bwd := fun _ _ => rfl
theorem pas10Fwd : Statement .pas10Fwd := fun _ _ => rfl
theorem pas11Same : Statement .pas11Same := fun _ _ => rfl
theorem pas12Bwd : Statement .pas12Bwd := fun _ _ => rfl
theorem pas13Bwd : Statement .pas13Bwd := fun _ _ => rfl
theorem pas20Bwd : Statement .pas20Bwd := fun _ _ => rfl
theorem pas21Bwd : Statement .pas21Bwd := fun _ _ => rfl
theorem pas22Same : Statement .pas22Same := fun _ _ => rfl
theorem pas23Fwd : Statement .pas23Fwd := fun _ _ => rfl
theorem pas30Bwd : Statement .pas30Bwd := fun _ _ => rfl
theorem pas31Fwd : Statement .pas31Fwd := fun _ _ => rfl
theorem pas32Bwd : Statement .pas32Bwd := fun _ _ => rfl
theorem pas33Same : Statement .pas33Same := fun _ _ => rfl
theorem modeOff : Statement .modeOff := fun _ _ => rfl
theorem modePowerAssist : Statement .modePowerAssist := fun _ _ => rfl
theorem modeEmtbAssist : Statement .modeEmtbAssist := fun _ _ => rfl
theorem modeWalkAssist : Statement .modeWalkAssist := fun _ _ => rfl
theorem modeCruise : Statement .modeCruise := fun _ _ => rfl
theorem modeMotorCalibration : Statement .modeMotorCalibration := fun _ _ => rfl
theorem modeReserved (code : U8) : Statement (.modeReserved code) := fun _ h => h
theorem sysNoError : Statement .sysNoError := fun _ _ => rfl
theorem sysMotorBlocked : Statement .sysMotorBlocked := fun _ _ => rfl
theorem sysTorqueSensorFault : Statement .sysTorqueSensorFault := fun _ _ => rfl
theorem sysCommLost : Statement .sysCommLost := fun _ _ => rfl
theorem cmodeBlocked : Statement .cmodeBlocked := fun _ _ => rfl
theorem cmodeInterpolated : Statement .cmodeInterpolated := fun _ _ => rfl
theorem auxfNone : Statement .auxfNone := fun _ _ => rfl
theorem auxfThrottle (adcAux : U12) : Statement (.auxfThrottle adcAux) := fun _ _ => rfl
theorem auxfTemperature (adcAux : U12) : Statement (.auxfTemperature adcAux) := fun _ _ => rfl
theorem auxfReserved : Statement .auxfReserved := fun _ _ => rfl
theorem mtypeMotorA : Statement .mtypeMotorA := fun _ _ => rfl
theorem mtypeMotorB : Statement .mtypeMotorB := fun _ _ => rfl

end Sys2Proof.Laws.WfEncodable
end

