-- ==== Sys2Proof/Laws/State.lean ====
section
/-! SUPPORT. One lemma per field per write of a register group, all true by rfl: no later proof unfolds a record update. -/

namespace Sys2Proof.Machine

@[simp] theorem State.withRotor_par (s : State) (v : RotorState) : (s.withRotor v).par = s.par := rfl
@[simp] theorem State.withRotor_rotor (s : State) (v : RotorState) : (s.withRotor v).rotor = v := rfl
@[simp] theorem State.withRotor_out (s : State) (v : RotorState) : (s.withRotor v).out = s.out := rfl
@[simp] theorem State.withRotor_foc (s : State) (v : RotorState) : (s.withRotor v).foc = s.foc := rfl
@[simp] theorem State.withRotor_drive (s : State) (v : RotorState) : (s.withRotor v).drive = s.drive := rfl
@[simp] theorem State.withRotor_adc (s : State) (v : RotorState) : (s.withRotor v).adc = s.adc := rfl
@[simp] theorem State.withRotor_cad (s : State) (v : RotorState) : (s.withRotor v).cad = s.cad := rfl
@[simp] theorem State.withRotor_whl (s : State) (v : RotorState) : (s.withRotor v).whl = s.whl := rfl
@[simp] theorem State.withRotor_tq (s : State) (v : RotorState) : (s.withRotor v).tq = s.tq := rfl
@[simp] theorem State.withRotor_asst (s : State) (v : RotorState) : (s.withRotor v).asst = s.asst := rfl
@[simp] theorem State.withRotor_ctl (s : State) (v : RotorState) : (s.withRotor v).ctl = s.ctl := rfl
@[simp] theorem State.withRotor_cmdIn (s : State) (v : RotorState) : (s.withRotor v).cmdIn = s.cmdIn := rfl
@[simp] theorem State.withRotor_cmd (s : State) (v : RotorState) : (s.withRotor v).cmd = s.cmd := rfl
@[simp] theorem State.withRotor_cfg (s : State) (v : RotorState) : (s.withRotor v).cfg = s.cfg := rfl
@[simp] theorem State.withRotor_snap (s : State) (v : RotorState) : (s.withRotor v).snap = s.snap := rfl
@[simp] theorem State.withRotor_pend (s : State) (v : RotorState) : (s.withRotor v).pend = s.pend := rfl
@[simp] theorem State.withRotor_work (s : State) (v : RotorState) : (s.withRotor v).work = s.work := rfl
@[simp] theorem State.withRotor_inbox (s : State) (v : RotorState) : (s.withRotor v).inbox = s.inbox := rfl
@[simp] theorem State.withRotor_freeCount (s : State) (v : RotorState) : (s.withRotor v).freeCount = s.freeCount := rfl
@[simp] theorem State.withOut_par (s : State) (v : OutputRegs) : (s.withOut v).par = s.par := rfl
@[simp] theorem State.withOut_rotor (s : State) (v : OutputRegs) : (s.withOut v).rotor = s.rotor := rfl
@[simp] theorem State.withOut_out (s : State) (v : OutputRegs) : (s.withOut v).out = v := rfl
@[simp] theorem State.withOut_foc (s : State) (v : OutputRegs) : (s.withOut v).foc = s.foc := rfl
@[simp] theorem State.withOut_drive (s : State) (v : OutputRegs) : (s.withOut v).drive = s.drive := rfl
@[simp] theorem State.withOut_adc (s : State) (v : OutputRegs) : (s.withOut v).adc = s.adc := rfl
@[simp] theorem State.withOut_cad (s : State) (v : OutputRegs) : (s.withOut v).cad = s.cad := rfl
@[simp] theorem State.withOut_whl (s : State) (v : OutputRegs) : (s.withOut v).whl = s.whl := rfl
@[simp] theorem State.withOut_tq (s : State) (v : OutputRegs) : (s.withOut v).tq = s.tq := rfl
@[simp] theorem State.withOut_asst (s : State) (v : OutputRegs) : (s.withOut v).asst = s.asst := rfl
@[simp] theorem State.withOut_ctl (s : State) (v : OutputRegs) : (s.withOut v).ctl = s.ctl := rfl
@[simp] theorem State.withOut_cmdIn (s : State) (v : OutputRegs) : (s.withOut v).cmdIn = s.cmdIn := rfl
@[simp] theorem State.withOut_cmd (s : State) (v : OutputRegs) : (s.withOut v).cmd = s.cmd := rfl
@[simp] theorem State.withOut_cfg (s : State) (v : OutputRegs) : (s.withOut v).cfg = s.cfg := rfl
@[simp] theorem State.withOut_snap (s : State) (v : OutputRegs) : (s.withOut v).snap = s.snap := rfl
@[simp] theorem State.withOut_pend (s : State) (v : OutputRegs) : (s.withOut v).pend = s.pend := rfl
@[simp] theorem State.withOut_work (s : State) (v : OutputRegs) : (s.withOut v).work = s.work := rfl
@[simp] theorem State.withOut_inbox (s : State) (v : OutputRegs) : (s.withOut v).inbox = s.inbox := rfl
@[simp] theorem State.withOut_freeCount (s : State) (v : OutputRegs) : (s.withOut v).freeCount = s.freeCount := rfl
@[simp] theorem State.withFoc_par (s : State) (v : FocState) : (s.withFoc v).par = s.par := rfl
@[simp] theorem State.withFoc_rotor (s : State) (v : FocState) : (s.withFoc v).rotor = s.rotor := rfl
@[simp] theorem State.withFoc_out (s : State) (v : FocState) : (s.withFoc v).out = s.out := rfl
@[simp] theorem State.withFoc_foc (s : State) (v : FocState) : (s.withFoc v).foc = v := rfl
@[simp] theorem State.withFoc_drive (s : State) (v : FocState) : (s.withFoc v).drive = s.drive := rfl
@[simp] theorem State.withFoc_adc (s : State) (v : FocState) : (s.withFoc v).adc = s.adc := rfl
@[simp] theorem State.withFoc_cad (s : State) (v : FocState) : (s.withFoc v).cad = s.cad := rfl
@[simp] theorem State.withFoc_whl (s : State) (v : FocState) : (s.withFoc v).whl = s.whl := rfl
@[simp] theorem State.withFoc_tq (s : State) (v : FocState) : (s.withFoc v).tq = s.tq := rfl
@[simp] theorem State.withFoc_asst (s : State) (v : FocState) : (s.withFoc v).asst = s.asst := rfl
@[simp] theorem State.withFoc_ctl (s : State) (v : FocState) : (s.withFoc v).ctl = s.ctl := rfl
@[simp] theorem State.withFoc_cmdIn (s : State) (v : FocState) : (s.withFoc v).cmdIn = s.cmdIn := rfl
@[simp] theorem State.withFoc_cmd (s : State) (v : FocState) : (s.withFoc v).cmd = s.cmd := rfl
@[simp] theorem State.withFoc_cfg (s : State) (v : FocState) : (s.withFoc v).cfg = s.cfg := rfl
@[simp] theorem State.withFoc_snap (s : State) (v : FocState) : (s.withFoc v).snap = s.snap := rfl
@[simp] theorem State.withFoc_pend (s : State) (v : FocState) : (s.withFoc v).pend = s.pend := rfl
@[simp] theorem State.withFoc_work (s : State) (v : FocState) : (s.withFoc v).work = s.work := rfl
@[simp] theorem State.withFoc_inbox (s : State) (v : FocState) : (s.withFoc v).inbox = s.inbox := rfl
@[simp] theorem State.withFoc_freeCount (s : State) (v : FocState) : (s.withFoc v).freeCount = s.freeCount := rfl
@[simp] theorem State.withDrive_par (s : State) (v : DriveState) : (s.withDrive v).par = s.par := rfl
@[simp] theorem State.withDrive_rotor (s : State) (v : DriveState) : (s.withDrive v).rotor = s.rotor := rfl
@[simp] theorem State.withDrive_out (s : State) (v : DriveState) : (s.withDrive v).out = s.out := rfl
@[simp] theorem State.withDrive_foc (s : State) (v : DriveState) : (s.withDrive v).foc = s.foc := rfl
@[simp] theorem State.withDrive_drive (s : State) (v : DriveState) : (s.withDrive v).drive = v := rfl
@[simp] theorem State.withDrive_adc (s : State) (v : DriveState) : (s.withDrive v).adc = s.adc := rfl
@[simp] theorem State.withDrive_cad (s : State) (v : DriveState) : (s.withDrive v).cad = s.cad := rfl
@[simp] theorem State.withDrive_whl (s : State) (v : DriveState) : (s.withDrive v).whl = s.whl := rfl
@[simp] theorem State.withDrive_tq (s : State) (v : DriveState) : (s.withDrive v).tq = s.tq := rfl
@[simp] theorem State.withDrive_asst (s : State) (v : DriveState) : (s.withDrive v).asst = s.asst := rfl
@[simp] theorem State.withDrive_ctl (s : State) (v : DriveState) : (s.withDrive v).ctl = s.ctl := rfl
@[simp] theorem State.withDrive_cmdIn (s : State) (v : DriveState) : (s.withDrive v).cmdIn = s.cmdIn := rfl
@[simp] theorem State.withDrive_cmd (s : State) (v : DriveState) : (s.withDrive v).cmd = s.cmd := rfl
@[simp] theorem State.withDrive_cfg (s : State) (v : DriveState) : (s.withDrive v).cfg = s.cfg := rfl
@[simp] theorem State.withDrive_snap (s : State) (v : DriveState) : (s.withDrive v).snap = s.snap := rfl
@[simp] theorem State.withDrive_pend (s : State) (v : DriveState) : (s.withDrive v).pend = s.pend := rfl
@[simp] theorem State.withDrive_work (s : State) (v : DriveState) : (s.withDrive v).work = s.work := rfl
@[simp] theorem State.withDrive_inbox (s : State) (v : DriveState) : (s.withDrive v).inbox = s.inbox := rfl
@[simp] theorem State.withDrive_freeCount (s : State) (v : DriveState) : (s.withDrive v).freeCount = s.freeCount := rfl
@[simp] theorem State.withAdc_par (s : State) (v : AdcState) : (s.withAdc v).par = s.par := rfl
@[simp] theorem State.withAdc_rotor (s : State) (v : AdcState) : (s.withAdc v).rotor = s.rotor := rfl
@[simp] theorem State.withAdc_out (s : State) (v : AdcState) : (s.withAdc v).out = s.out := rfl
@[simp] theorem State.withAdc_foc (s : State) (v : AdcState) : (s.withAdc v).foc = s.foc := rfl
@[simp] theorem State.withAdc_drive (s : State) (v : AdcState) : (s.withAdc v).drive = s.drive := rfl
@[simp] theorem State.withAdc_adc (s : State) (v : AdcState) : (s.withAdc v).adc = v := rfl
@[simp] theorem State.withAdc_cad (s : State) (v : AdcState) : (s.withAdc v).cad = s.cad := rfl
@[simp] theorem State.withAdc_whl (s : State) (v : AdcState) : (s.withAdc v).whl = s.whl := rfl
@[simp] theorem State.withAdc_tq (s : State) (v : AdcState) : (s.withAdc v).tq = s.tq := rfl
@[simp] theorem State.withAdc_asst (s : State) (v : AdcState) : (s.withAdc v).asst = s.asst := rfl
@[simp] theorem State.withAdc_ctl (s : State) (v : AdcState) : (s.withAdc v).ctl = s.ctl := rfl
@[simp] theorem State.withAdc_cmdIn (s : State) (v : AdcState) : (s.withAdc v).cmdIn = s.cmdIn := rfl
@[simp] theorem State.withAdc_cmd (s : State) (v : AdcState) : (s.withAdc v).cmd = s.cmd := rfl
@[simp] theorem State.withAdc_cfg (s : State) (v : AdcState) : (s.withAdc v).cfg = s.cfg := rfl
@[simp] theorem State.withAdc_snap (s : State) (v : AdcState) : (s.withAdc v).snap = s.snap := rfl
@[simp] theorem State.withAdc_pend (s : State) (v : AdcState) : (s.withAdc v).pend = s.pend := rfl
@[simp] theorem State.withAdc_work (s : State) (v : AdcState) : (s.withAdc v).work = s.work := rfl
@[simp] theorem State.withAdc_inbox (s : State) (v : AdcState) : (s.withAdc v).inbox = s.inbox := rfl
@[simp] theorem State.withAdc_freeCount (s : State) (v : AdcState) : (s.withAdc v).freeCount = s.freeCount := rfl
@[simp] theorem State.withCad_par (s : State) (v : CadenceState) : (s.withCad v).par = s.par := rfl
@[simp] theorem State.withCad_rotor (s : State) (v : CadenceState) : (s.withCad v).rotor = s.rotor := rfl
@[simp] theorem State.withCad_out (s : State) (v : CadenceState) : (s.withCad v).out = s.out := rfl
@[simp] theorem State.withCad_foc (s : State) (v : CadenceState) : (s.withCad v).foc = s.foc := rfl
@[simp] theorem State.withCad_drive (s : State) (v : CadenceState) : (s.withCad v).drive = s.drive := rfl
@[simp] theorem State.withCad_adc (s : State) (v : CadenceState) : (s.withCad v).adc = s.adc := rfl
@[simp] theorem State.withCad_cad (s : State) (v : CadenceState) : (s.withCad v).cad = v := rfl
@[simp] theorem State.withCad_whl (s : State) (v : CadenceState) : (s.withCad v).whl = s.whl := rfl
@[simp] theorem State.withCad_tq (s : State) (v : CadenceState) : (s.withCad v).tq = s.tq := rfl
@[simp] theorem State.withCad_asst (s : State) (v : CadenceState) : (s.withCad v).asst = s.asst := rfl
@[simp] theorem State.withCad_ctl (s : State) (v : CadenceState) : (s.withCad v).ctl = s.ctl := rfl
@[simp] theorem State.withCad_cmdIn (s : State) (v : CadenceState) : (s.withCad v).cmdIn = s.cmdIn := rfl
@[simp] theorem State.withCad_cmd (s : State) (v : CadenceState) : (s.withCad v).cmd = s.cmd := rfl
@[simp] theorem State.withCad_cfg (s : State) (v : CadenceState) : (s.withCad v).cfg = s.cfg := rfl
@[simp] theorem State.withCad_snap (s : State) (v : CadenceState) : (s.withCad v).snap = s.snap := rfl
@[simp] theorem State.withCad_pend (s : State) (v : CadenceState) : (s.withCad v).pend = s.pend := rfl
@[simp] theorem State.withCad_work (s : State) (v : CadenceState) : (s.withCad v).work = s.work := rfl
@[simp] theorem State.withCad_inbox (s : State) (v : CadenceState) : (s.withCad v).inbox = s.inbox := rfl
@[simp] theorem State.withCad_freeCount (s : State) (v : CadenceState) : (s.withCad v).freeCount = s.freeCount := rfl
@[simp] theorem State.withWhl_par (s : State) (v : WheelState) : (s.withWhl v).par = s.par := rfl
@[simp] theorem State.withWhl_rotor (s : State) (v : WheelState) : (s.withWhl v).rotor = s.rotor := rfl
@[simp] theorem State.withWhl_out (s : State) (v : WheelState) : (s.withWhl v).out = s.out := rfl
@[simp] theorem State.withWhl_foc (s : State) (v : WheelState) : (s.withWhl v).foc = s.foc := rfl
@[simp] theorem State.withWhl_drive (s : State) (v : WheelState) : (s.withWhl v).drive = s.drive := rfl
@[simp] theorem State.withWhl_adc (s : State) (v : WheelState) : (s.withWhl v).adc = s.adc := rfl
@[simp] theorem State.withWhl_cad (s : State) (v : WheelState) : (s.withWhl v).cad = s.cad := rfl
@[simp] theorem State.withWhl_whl (s : State) (v : WheelState) : (s.withWhl v).whl = v := rfl
@[simp] theorem State.withWhl_tq (s : State) (v : WheelState) : (s.withWhl v).tq = s.tq := rfl
@[simp] theorem State.withWhl_asst (s : State) (v : WheelState) : (s.withWhl v).asst = s.asst := rfl
@[simp] theorem State.withWhl_ctl (s : State) (v : WheelState) : (s.withWhl v).ctl = s.ctl := rfl
@[simp] theorem State.withWhl_cmdIn (s : State) (v : WheelState) : (s.withWhl v).cmdIn = s.cmdIn := rfl
@[simp] theorem State.withWhl_cmd (s : State) (v : WheelState) : (s.withWhl v).cmd = s.cmd := rfl
@[simp] theorem State.withWhl_cfg (s : State) (v : WheelState) : (s.withWhl v).cfg = s.cfg := rfl
@[simp] theorem State.withWhl_snap (s : State) (v : WheelState) : (s.withWhl v).snap = s.snap := rfl
@[simp] theorem State.withWhl_pend (s : State) (v : WheelState) : (s.withWhl v).pend = s.pend := rfl
@[simp] theorem State.withWhl_work (s : State) (v : WheelState) : (s.withWhl v).work = s.work := rfl
@[simp] theorem State.withWhl_inbox (s : State) (v : WheelState) : (s.withWhl v).inbox = s.inbox := rfl
@[simp] theorem State.withWhl_freeCount (s : State) (v : WheelState) : (s.withWhl v).freeCount = s.freeCount := rfl
@[simp] theorem State.withTq_par (s : State) (v : TorqueState) : (s.withTq v).par = s.par := rfl
@[simp] theorem State.withTq_rotor (s : State) (v : TorqueState) : (s.withTq v).rotor = s.rotor := rfl
@[simp] theorem State.withTq_out (s : State) (v : TorqueState) : (s.withTq v).out = s.out := rfl
@[simp] theorem State.withTq_foc (s : State) (v : TorqueState) : (s.withTq v).foc = s.foc := rfl
@[simp] theorem State.withTq_drive (s : State) (v : TorqueState) : (s.withTq v).drive = s.drive := rfl
@[simp] theorem State.withTq_adc (s : State) (v : TorqueState) : (s.withTq v).adc = s.adc := rfl
@[simp] theorem State.withTq_cad (s : State) (v : TorqueState) : (s.withTq v).cad = s.cad := rfl
@[simp] theorem State.withTq_whl (s : State) (v : TorqueState) : (s.withTq v).whl = s.whl := rfl
@[simp] theorem State.withTq_tq (s : State) (v : TorqueState) : (s.withTq v).tq = v := rfl
@[simp] theorem State.withTq_asst (s : State) (v : TorqueState) : (s.withTq v).asst = s.asst := rfl
@[simp] theorem State.withTq_ctl (s : State) (v : TorqueState) : (s.withTq v).ctl = s.ctl := rfl
@[simp] theorem State.withTq_cmdIn (s : State) (v : TorqueState) : (s.withTq v).cmdIn = s.cmdIn := rfl
@[simp] theorem State.withTq_cmd (s : State) (v : TorqueState) : (s.withTq v).cmd = s.cmd := rfl
@[simp] theorem State.withTq_cfg (s : State) (v : TorqueState) : (s.withTq v).cfg = s.cfg := rfl
@[simp] theorem State.withTq_snap (s : State) (v : TorqueState) : (s.withTq v).snap = s.snap := rfl
@[simp] theorem State.withTq_pend (s : State) (v : TorqueState) : (s.withTq v).pend = s.pend := rfl
@[simp] theorem State.withTq_work (s : State) (v : TorqueState) : (s.withTq v).work = s.work := rfl
@[simp] theorem State.withTq_inbox (s : State) (v : TorqueState) : (s.withTq v).inbox = s.inbox := rfl
@[simp] theorem State.withTq_freeCount (s : State) (v : TorqueState) : (s.withTq v).freeCount = s.freeCount := rfl
@[simp] theorem State.withAsst_par (s : State) (v : AssistState) : (s.withAsst v).par = s.par := rfl
@[simp] theorem State.withAsst_rotor (s : State) (v : AssistState) : (s.withAsst v).rotor = s.rotor := rfl
@[simp] theorem State.withAsst_out (s : State) (v : AssistState) : (s.withAsst v).out = s.out := rfl
@[simp] theorem State.withAsst_foc (s : State) (v : AssistState) : (s.withAsst v).foc = s.foc := rfl
@[simp] theorem State.withAsst_drive (s : State) (v : AssistState) : (s.withAsst v).drive = s.drive := rfl
@[simp] theorem State.withAsst_adc (s : State) (v : AssistState) : (s.withAsst v).adc = s.adc := rfl
@[simp] theorem State.withAsst_cad (s : State) (v : AssistState) : (s.withAsst v).cad = s.cad := rfl
@[simp] theorem State.withAsst_whl (s : State) (v : AssistState) : (s.withAsst v).whl = s.whl := rfl
@[simp] theorem State.withAsst_tq (s : State) (v : AssistState) : (s.withAsst v).tq = s.tq := rfl
@[simp] theorem State.withAsst_asst (s : State) (v : AssistState) : (s.withAsst v).asst = v := rfl
@[simp] theorem State.withAsst_ctl (s : State) (v : AssistState) : (s.withAsst v).ctl = s.ctl := rfl
@[simp] theorem State.withAsst_cmdIn (s : State) (v : AssistState) : (s.withAsst v).cmdIn = s.cmdIn := rfl
@[simp] theorem State.withAsst_cmd (s : State) (v : AssistState) : (s.withAsst v).cmd = s.cmd := rfl
@[simp] theorem State.withAsst_cfg (s : State) (v : AssistState) : (s.withAsst v).cfg = s.cfg := rfl
@[simp] theorem State.withAsst_snap (s : State) (v : AssistState) : (s.withAsst v).snap = s.snap := rfl
@[simp] theorem State.withAsst_pend (s : State) (v : AssistState) : (s.withAsst v).pend = s.pend := rfl
@[simp] theorem State.withAsst_work (s : State) (v : AssistState) : (s.withAsst v).work = s.work := rfl
@[simp] theorem State.withAsst_inbox (s : State) (v : AssistState) : (s.withAsst v).inbox = s.inbox := rfl
@[simp] theorem State.withAsst_freeCount (s : State) (v : AssistState) : (s.withAsst v).freeCount = s.freeCount := rfl
@[simp] theorem State.withCtl_par (s : State) (v : ControlRegs) : (s.withCtl v).par = s.par := rfl
@[simp] theorem State.withCtl_rotor (s : State) (v : ControlRegs) : (s.withCtl v).rotor = s.rotor := rfl
@[simp] theorem State.withCtl_out (s : State) (v : ControlRegs) : (s.withCtl v).out = s.out := rfl
@[simp] theorem State.withCtl_foc (s : State) (v : ControlRegs) : (s.withCtl v).foc = s.foc := rfl
@[simp] theorem State.withCtl_drive (s : State) (v : ControlRegs) : (s.withCtl v).drive = s.drive := rfl
@[simp] theorem State.withCtl_adc (s : State) (v : ControlRegs) : (s.withCtl v).adc = s.adc := rfl
@[simp] theorem State.withCtl_cad (s : State) (v : ControlRegs) : (s.withCtl v).cad = s.cad := rfl
@[simp] theorem State.withCtl_whl (s : State) (v : ControlRegs) : (s.withCtl v).whl = s.whl := rfl
@[simp] theorem State.withCtl_tq (s : State) (v : ControlRegs) : (s.withCtl v).tq = s.tq := rfl
@[simp] theorem State.withCtl_asst (s : State) (v : ControlRegs) : (s.withCtl v).asst = s.asst := rfl
@[simp] theorem State.withCtl_ctl (s : State) (v : ControlRegs) : (s.withCtl v).ctl = v := rfl
@[simp] theorem State.withCtl_cmdIn (s : State) (v : ControlRegs) : (s.withCtl v).cmdIn = s.cmdIn := rfl
@[simp] theorem State.withCtl_cmd (s : State) (v : ControlRegs) : (s.withCtl v).cmd = s.cmd := rfl
@[simp] theorem State.withCtl_cfg (s : State) (v : ControlRegs) : (s.withCtl v).cfg = s.cfg := rfl
@[simp] theorem State.withCtl_snap (s : State) (v : ControlRegs) : (s.withCtl v).snap = s.snap := rfl
@[simp] theorem State.withCtl_pend (s : State) (v : ControlRegs) : (s.withCtl v).pend = s.pend := rfl
@[simp] theorem State.withCtl_work (s : State) (v : ControlRegs) : (s.withCtl v).work = s.work := rfl
@[simp] theorem State.withCtl_inbox (s : State) (v : ControlRegs) : (s.withCtl v).inbox = s.inbox := rfl
@[simp] theorem State.withCtl_freeCount (s : State) (v : ControlRegs) : (s.withCtl v).freeCount = s.freeCount := rfl
@[simp] theorem State.withCmdIn_par (s : State) (v : CmdRec) : (s.withCmdIn v).par = s.par := rfl
@[simp] theorem State.withCmdIn_rotor (s : State) (v : CmdRec) : (s.withCmdIn v).rotor = s.rotor := rfl
@[simp] theorem State.withCmdIn_out (s : State) (v : CmdRec) : (s.withCmdIn v).out = s.out := rfl
@[simp] theorem State.withCmdIn_foc (s : State) (v : CmdRec) : (s.withCmdIn v).foc = s.foc := rfl
@[simp] theorem State.withCmdIn_drive (s : State) (v : CmdRec) : (s.withCmdIn v).drive = s.drive := rfl
@[simp] theorem State.withCmdIn_adc (s : State) (v : CmdRec) : (s.withCmdIn v).adc = s.adc := rfl
@[simp] theorem State.withCmdIn_cad (s : State) (v : CmdRec) : (s.withCmdIn v).cad = s.cad := rfl
@[simp] theorem State.withCmdIn_whl (s : State) (v : CmdRec) : (s.withCmdIn v).whl = s.whl := rfl
@[simp] theorem State.withCmdIn_tq (s : State) (v : CmdRec) : (s.withCmdIn v).tq = s.tq := rfl
@[simp] theorem State.withCmdIn_asst (s : State) (v : CmdRec) : (s.withCmdIn v).asst = s.asst := rfl
@[simp] theorem State.withCmdIn_ctl (s : State) (v : CmdRec) : (s.withCmdIn v).ctl = s.ctl := rfl
@[simp] theorem State.withCmdIn_cmdIn (s : State) (v : CmdRec) : (s.withCmdIn v).cmdIn = v := rfl
@[simp] theorem State.withCmdIn_cmd (s : State) (v : CmdRec) : (s.withCmdIn v).cmd = s.cmd := rfl
@[simp] theorem State.withCmdIn_cfg (s : State) (v : CmdRec) : (s.withCmdIn v).cfg = s.cfg := rfl
@[simp] theorem State.withCmdIn_snap (s : State) (v : CmdRec) : (s.withCmdIn v).snap = s.snap := rfl
@[simp] theorem State.withCmdIn_pend (s : State) (v : CmdRec) : (s.withCmdIn v).pend = s.pend := rfl
@[simp] theorem State.withCmdIn_work (s : State) (v : CmdRec) : (s.withCmdIn v).work = s.work := rfl
@[simp] theorem State.withCmdIn_inbox (s : State) (v : CmdRec) : (s.withCmdIn v).inbox = s.inbox := rfl
@[simp] theorem State.withCmdIn_freeCount (s : State) (v : CmdRec) : (s.withCmdIn v).freeCount = s.freeCount := rfl
@[simp] theorem State.withCmd_par (s : State) (v : CmdRec) : (s.withCmd v).par = s.par := rfl
@[simp] theorem State.withCmd_rotor (s : State) (v : CmdRec) : (s.withCmd v).rotor = s.rotor := rfl
@[simp] theorem State.withCmd_out (s : State) (v : CmdRec) : (s.withCmd v).out = s.out := rfl
@[simp] theorem State.withCmd_foc (s : State) (v : CmdRec) : (s.withCmd v).foc = s.foc := rfl
@[simp] theorem State.withCmd_drive (s : State) (v : CmdRec) : (s.withCmd v).drive = s.drive := rfl
@[simp] theorem State.withCmd_adc (s : State) (v : CmdRec) : (s.withCmd v).adc = s.adc := rfl
@[simp] theorem State.withCmd_cad (s : State) (v : CmdRec) : (s.withCmd v).cad = s.cad := rfl
@[simp] theorem State.withCmd_whl (s : State) (v : CmdRec) : (s.withCmd v).whl = s.whl := rfl
@[simp] theorem State.withCmd_tq (s : State) (v : CmdRec) : (s.withCmd v).tq = s.tq := rfl
@[simp] theorem State.withCmd_asst (s : State) (v : CmdRec) : (s.withCmd v).asst = s.asst := rfl
@[simp] theorem State.withCmd_ctl (s : State) (v : CmdRec) : (s.withCmd v).ctl = s.ctl := rfl
@[simp] theorem State.withCmd_cmdIn (s : State) (v : CmdRec) : (s.withCmd v).cmdIn = s.cmdIn := rfl
@[simp] theorem State.withCmd_cmd (s : State) (v : CmdRec) : (s.withCmd v).cmd = v := rfl
@[simp] theorem State.withCmd_cfg (s : State) (v : CmdRec) : (s.withCmd v).cfg = s.cfg := rfl
@[simp] theorem State.withCmd_snap (s : State) (v : CmdRec) : (s.withCmd v).snap = s.snap := rfl
@[simp] theorem State.withCmd_pend (s : State) (v : CmdRec) : (s.withCmd v).pend = s.pend := rfl
@[simp] theorem State.withCmd_work (s : State) (v : CmdRec) : (s.withCmd v).work = s.work := rfl
@[simp] theorem State.withCmd_inbox (s : State) (v : CmdRec) : (s.withCmd v).inbox = s.inbox := rfl
@[simp] theorem State.withCmd_freeCount (s : State) (v : CmdRec) : (s.withCmd v).freeCount = s.freeCount := rfl
@[simp] theorem State.withCfg_par (s : State) (v : CfgRec) : (s.withCfg v).par = s.par := rfl
@[simp] theorem State.withCfg_rotor (s : State) (v : CfgRec) : (s.withCfg v).rotor = s.rotor := rfl
@[simp] theorem State.withCfg_out (s : State) (v : CfgRec) : (s.withCfg v).out = s.out := rfl
@[simp] theorem State.withCfg_foc (s : State) (v : CfgRec) : (s.withCfg v).foc = s.foc := rfl
@[simp] theorem State.withCfg_drive (s : State) (v : CfgRec) : (s.withCfg v).drive = s.drive := rfl
@[simp] theorem State.withCfg_adc (s : State) (v : CfgRec) : (s.withCfg v).adc = s.adc := rfl
@[simp] theorem State.withCfg_cad (s : State) (v : CfgRec) : (s.withCfg v).cad = s.cad := rfl
@[simp] theorem State.withCfg_whl (s : State) (v : CfgRec) : (s.withCfg v).whl = s.whl := rfl
@[simp] theorem State.withCfg_tq (s : State) (v : CfgRec) : (s.withCfg v).tq = s.tq := rfl
@[simp] theorem State.withCfg_asst (s : State) (v : CfgRec) : (s.withCfg v).asst = s.asst := rfl
@[simp] theorem State.withCfg_ctl (s : State) (v : CfgRec) : (s.withCfg v).ctl = s.ctl := rfl
@[simp] theorem State.withCfg_cmdIn (s : State) (v : CfgRec) : (s.withCfg v).cmdIn = s.cmdIn := rfl
@[simp] theorem State.withCfg_cmd (s : State) (v : CfgRec) : (s.withCfg v).cmd = s.cmd := rfl
@[simp] theorem State.withCfg_cfg (s : State) (v : CfgRec) : (s.withCfg v).cfg = v := rfl
@[simp] theorem State.withCfg_snap (s : State) (v : CfgRec) : (s.withCfg v).snap = s.snap := rfl
@[simp] theorem State.withCfg_pend (s : State) (v : CfgRec) : (s.withCfg v).pend = s.pend := rfl
@[simp] theorem State.withCfg_work (s : State) (v : CfgRec) : (s.withCfg v).work = s.work := rfl
@[simp] theorem State.withCfg_inbox (s : State) (v : CfgRec) : (s.withCfg v).inbox = s.inbox := rfl
@[simp] theorem State.withCfg_freeCount (s : State) (v : CfgRec) : (s.withCfg v).freeCount = s.freeCount := rfl
@[simp] theorem State.withSnap_par (s : State) (v : Snap) : (s.withSnap v).par = s.par := rfl
@[simp] theorem State.withSnap_rotor (s : State) (v : Snap) : (s.withSnap v).rotor = s.rotor := rfl
@[simp] theorem State.withSnap_out (s : State) (v : Snap) : (s.withSnap v).out = s.out := rfl
@[simp] theorem State.withSnap_foc (s : State) (v : Snap) : (s.withSnap v).foc = s.foc := rfl
@[simp] theorem State.withSnap_drive (s : State) (v : Snap) : (s.withSnap v).drive = s.drive := rfl
@[simp] theorem State.withSnap_adc (s : State) (v : Snap) : (s.withSnap v).adc = s.adc := rfl
@[simp] theorem State.withSnap_cad (s : State) (v : Snap) : (s.withSnap v).cad = s.cad := rfl
@[simp] theorem State.withSnap_whl (s : State) (v : Snap) : (s.withSnap v).whl = s.whl := rfl
@[simp] theorem State.withSnap_tq (s : State) (v : Snap) : (s.withSnap v).tq = s.tq := rfl
@[simp] theorem State.withSnap_asst (s : State) (v : Snap) : (s.withSnap v).asst = s.asst := rfl
@[simp] theorem State.withSnap_ctl (s : State) (v : Snap) : (s.withSnap v).ctl = s.ctl := rfl
@[simp] theorem State.withSnap_cmdIn (s : State) (v : Snap) : (s.withSnap v).cmdIn = s.cmdIn := rfl
@[simp] theorem State.withSnap_cmd (s : State) (v : Snap) : (s.withSnap v).cmd = s.cmd := rfl
@[simp] theorem State.withSnap_cfg (s : State) (v : Snap) : (s.withSnap v).cfg = s.cfg := rfl
@[simp] theorem State.withSnap_snap (s : State) (v : Snap) : (s.withSnap v).snap = v := rfl
@[simp] theorem State.withSnap_pend (s : State) (v : Snap) : (s.withSnap v).pend = s.pend := rfl
@[simp] theorem State.withSnap_work (s : State) (v : Snap) : (s.withSnap v).work = s.work := rfl
@[simp] theorem State.withSnap_inbox (s : State) (v : Snap) : (s.withSnap v).inbox = s.inbox := rfl
@[simp] theorem State.withSnap_freeCount (s : State) (v : Snap) : (s.withSnap v).freeCount = s.freeCount := rfl
@[simp] theorem State.withPend_par (s : State) (v : Pend) : (s.withPend v).par = s.par := rfl
@[simp] theorem State.withPend_rotor (s : State) (v : Pend) : (s.withPend v).rotor = s.rotor := rfl
@[simp] theorem State.withPend_out (s : State) (v : Pend) : (s.withPend v).out = s.out := rfl
@[simp] theorem State.withPend_foc (s : State) (v : Pend) : (s.withPend v).foc = s.foc := rfl
@[simp] theorem State.withPend_drive (s : State) (v : Pend) : (s.withPend v).drive = s.drive := rfl
@[simp] theorem State.withPend_adc (s : State) (v : Pend) : (s.withPend v).adc = s.adc := rfl
@[simp] theorem State.withPend_cad (s : State) (v : Pend) : (s.withPend v).cad = s.cad := rfl
@[simp] theorem State.withPend_whl (s : State) (v : Pend) : (s.withPend v).whl = s.whl := rfl
@[simp] theorem State.withPend_tq (s : State) (v : Pend) : (s.withPend v).tq = s.tq := rfl
@[simp] theorem State.withPend_asst (s : State) (v : Pend) : (s.withPend v).asst = s.asst := rfl
@[simp] theorem State.withPend_ctl (s : State) (v : Pend) : (s.withPend v).ctl = s.ctl := rfl
@[simp] theorem State.withPend_cmdIn (s : State) (v : Pend) : (s.withPend v).cmdIn = s.cmdIn := rfl
@[simp] theorem State.withPend_cmd (s : State) (v : Pend) : (s.withPend v).cmd = s.cmd := rfl
@[simp] theorem State.withPend_cfg (s : State) (v : Pend) : (s.withPend v).cfg = s.cfg := rfl
@[simp] theorem State.withPend_snap (s : State) (v : Pend) : (s.withPend v).snap = s.snap := rfl
@[simp] theorem State.withPend_pend (s : State) (v : Pend) : (s.withPend v).pend = v := rfl
@[simp] theorem State.withPend_work (s : State) (v : Pend) : (s.withPend v).work = s.work := rfl
@[simp] theorem State.withPend_inbox (s : State) (v : Pend) : (s.withPend v).inbox = s.inbox := rfl
@[simp] theorem State.withPend_freeCount (s : State) (v : Pend) : (s.withPend v).freeCount = s.freeCount := rfl
@[simp] theorem State.withWork_par (s : State) (v : Work) : (s.withWork v).par = s.par := rfl
@[simp] theorem State.withWork_rotor (s : State) (v : Work) : (s.withWork v).rotor = s.rotor := rfl
@[simp] theorem State.withWork_out (s : State) (v : Work) : (s.withWork v).out = s.out := rfl
@[simp] theorem State.withWork_foc (s : State) (v : Work) : (s.withWork v).foc = s.foc := rfl
@[simp] theorem State.withWork_drive (s : State) (v : Work) : (s.withWork v).drive = s.drive := rfl
@[simp] theorem State.withWork_adc (s : State) (v : Work) : (s.withWork v).adc = s.adc := rfl
@[simp] theorem State.withWork_cad (s : State) (v : Work) : (s.withWork v).cad = s.cad := rfl
@[simp] theorem State.withWork_whl (s : State) (v : Work) : (s.withWork v).whl = s.whl := rfl
@[simp] theorem State.withWork_tq (s : State) (v : Work) : (s.withWork v).tq = s.tq := rfl
@[simp] theorem State.withWork_asst (s : State) (v : Work) : (s.withWork v).asst = s.asst := rfl
@[simp] theorem State.withWork_ctl (s : State) (v : Work) : (s.withWork v).ctl = s.ctl := rfl
@[simp] theorem State.withWork_cmdIn (s : State) (v : Work) : (s.withWork v).cmdIn = s.cmdIn := rfl
@[simp] theorem State.withWork_cmd (s : State) (v : Work) : (s.withWork v).cmd = s.cmd := rfl
@[simp] theorem State.withWork_cfg (s : State) (v : Work) : (s.withWork v).cfg = s.cfg := rfl
@[simp] theorem State.withWork_snap (s : State) (v : Work) : (s.withWork v).snap = s.snap := rfl
@[simp] theorem State.withWork_pend (s : State) (v : Work) : (s.withWork v).pend = s.pend := rfl
@[simp] theorem State.withWork_work (s : State) (v : Work) : (s.withWork v).work = v := rfl
@[simp] theorem State.withWork_inbox (s : State) (v : Work) : (s.withWork v).inbox = s.inbox := rfl
@[simp] theorem State.withWork_freeCount (s : State) (v : Work) : (s.withWork v).freeCount = s.freeCount := rfl
@[simp] theorem State.withInbox_par (s : State) (v : List Input) : (s.withInbox v).par = s.par := rfl
@[simp] theorem State.withInbox_rotor (s : State) (v : List Input) : (s.withInbox v).rotor = s.rotor := rfl
@[simp] theorem State.withInbox_out (s : State) (v : List Input) : (s.withInbox v).out = s.out := rfl
@[simp] theorem State.withInbox_foc (s : State) (v : List Input) : (s.withInbox v).foc = s.foc := rfl
@[simp] theorem State.withInbox_drive (s : State) (v : List Input) : (s.withInbox v).drive = s.drive := rfl
@[simp] theorem State.withInbox_adc (s : State) (v : List Input) : (s.withInbox v).adc = s.adc := rfl
@[simp] theorem State.withInbox_cad (s : State) (v : List Input) : (s.withInbox v).cad = s.cad := rfl
@[simp] theorem State.withInbox_whl (s : State) (v : List Input) : (s.withInbox v).whl = s.whl := rfl
@[simp] theorem State.withInbox_tq (s : State) (v : List Input) : (s.withInbox v).tq = s.tq := rfl
@[simp] theorem State.withInbox_asst (s : State) (v : List Input) : (s.withInbox v).asst = s.asst := rfl
@[simp] theorem State.withInbox_ctl (s : State) (v : List Input) : (s.withInbox v).ctl = s.ctl := rfl
@[simp] theorem State.withInbox_cmdIn (s : State) (v : List Input) : (s.withInbox v).cmdIn = s.cmdIn := rfl
@[simp] theorem State.withInbox_cmd (s : State) (v : List Input) : (s.withInbox v).cmd = s.cmd := rfl
@[simp] theorem State.withInbox_cfg (s : State) (v : List Input) : (s.withInbox v).cfg = s.cfg := rfl
@[simp] theorem State.withInbox_snap (s : State) (v : List Input) : (s.withInbox v).snap = s.snap := rfl
@[simp] theorem State.withInbox_pend (s : State) (v : List Input) : (s.withInbox v).pend = s.pend := rfl
@[simp] theorem State.withInbox_work (s : State) (v : List Input) : (s.withInbox v).work = s.work := rfl
@[simp] theorem State.withInbox_inbox (s : State) (v : List Input) : (s.withInbox v).inbox = v := rfl
@[simp] theorem State.withInbox_freeCount (s : State) (v : List Input) : (s.withInbox v).freeCount = s.freeCount := rfl

theorem State.withRotor_self (s : State) : s.withRotor s.rotor = s := rfl
@[simp] theorem State.withRotor_withRotor (s : State) (v w : RotorState) : (s.withRotor v).withRotor w = s.withRotor w := rfl
theorem State.withOut_self (s : State) : s.withOut s.out = s := rfl
@[simp] theorem State.withOut_withOut (s : State) (v w : OutputRegs) : (s.withOut v).withOut w = s.withOut w := rfl
theorem State.withFoc_self (s : State) : s.withFoc s.foc = s := rfl
@[simp] theorem State.withFoc_withFoc (s : State) (v w : FocState) : (s.withFoc v).withFoc w = s.withFoc w := rfl
theorem State.withDrive_self (s : State) : s.withDrive s.drive = s := rfl
@[simp] theorem State.withDrive_withDrive (s : State) (v w : DriveState) : (s.withDrive v).withDrive w = s.withDrive w := rfl
theorem State.withAdc_self (s : State) : s.withAdc s.adc = s := rfl
@[simp] theorem State.withAdc_withAdc (s : State) (v w : AdcState) : (s.withAdc v).withAdc w = s.withAdc w := rfl
theorem State.withCad_self (s : State) : s.withCad s.cad = s := rfl
@[simp] theorem State.withCad_withCad (s : State) (v w : CadenceState) : (s.withCad v).withCad w = s.withCad w := rfl
theorem State.withWhl_self (s : State) : s.withWhl s.whl = s := rfl
@[simp] theorem State.withWhl_withWhl (s : State) (v w : WheelState) : (s.withWhl v).withWhl w = s.withWhl w := rfl
theorem State.withTq_self (s : State) : s.withTq s.tq = s := rfl
@[simp] theorem State.withTq_withTq (s : State) (v w : TorqueState) : (s.withTq v).withTq w = s.withTq w := rfl
theorem State.withAsst_self (s : State) : s.withAsst s.asst = s := rfl
@[simp] theorem State.withAsst_withAsst (s : State) (v w : AssistState) : (s.withAsst v).withAsst w = s.withAsst w := rfl
theorem State.withCtl_self (s : State) : s.withCtl s.ctl = s := rfl
@[simp] theorem State.withCtl_withCtl (s : State) (v w : ControlRegs) : (s.withCtl v).withCtl w = s.withCtl w := rfl
theorem State.withCmdIn_self (s : State) : s.withCmdIn s.cmdIn = s := rfl
@[simp] theorem State.withCmdIn_withCmdIn (s : State) (v w : CmdRec) : (s.withCmdIn v).withCmdIn w = s.withCmdIn w := rfl
theorem State.withCmd_self (s : State) : s.withCmd s.cmd = s := rfl
@[simp] theorem State.withCmd_withCmd (s : State) (v w : CmdRec) : (s.withCmd v).withCmd w = s.withCmd w := rfl
theorem State.withCfg_self (s : State) : s.withCfg s.cfg = s := rfl
@[simp] theorem State.withCfg_withCfg (s : State) (v w : CfgRec) : (s.withCfg v).withCfg w = s.withCfg w := rfl
theorem State.withSnap_self (s : State) : s.withSnap s.snap = s := rfl
@[simp] theorem State.withSnap_withSnap (s : State) (v w : Snap) : (s.withSnap v).withSnap w = s.withSnap w := rfl
theorem State.withPend_self (s : State) : s.withPend s.pend = s := rfl
@[simp] theorem State.withPend_withPend (s : State) (v w : Pend) : (s.withPend v).withPend w = s.withPend w := rfl
theorem State.withWork_self (s : State) : s.withWork s.work = s := rfl
@[simp] theorem State.withWork_withWork (s : State) (v w : Work) : (s.withWork v).withWork w = s.withWork w := rfl
theorem State.withInbox_self (s : State) : s.withInbox s.inbox = s := rfl
@[simp] theorem State.withInbox_withInbox (s : State) (v w : List Input) : (s.withInbox v).withInbox w = s.withInbox w := rfl

@[simp] theorem State.withTgt_tgt (s : State) (t : Targets) : (s.withTgt t).tgt = t := rfl
@[simp] theorem State.withTgt_par (s : State) (t : Targets) : (s.withTgt t).par = s.par := rfl
@[simp] theorem State.clearWork_par (s : State) : s.clearWork.par = s.par := rfl
@[simp] theorem State.withTgt_rotor (s : State) (t : Targets) : (s.withTgt t).rotor = s.rotor := rfl
@[simp] theorem State.clearWork_rotor (s : State) : s.clearWork.rotor = s.rotor := rfl
@[simp] theorem State.withTgt_out (s : State) (t : Targets) : (s.withTgt t).out = s.out := rfl
@[simp] theorem State.clearWork_out (s : State) : s.clearWork.out = s.out := rfl
@[simp] theorem State.withTgt_foc (s : State) (t : Targets) : (s.withTgt t).foc = s.foc := rfl
@[simp] theorem State.clearWork_foc (s : State) : s.clearWork.foc = s.foc := rfl
@[simp] theorem State.withTgt_drive (s : State) (t : Targets) : (s.withTgt t).drive = s.drive := rfl
@[simp] theorem State.clearWork_drive (s : State) : s.clearWork.drive = s.drive := rfl
@[simp] theorem State.withTgt_adc (s : State) (t : Targets) : (s.withTgt t).adc = s.adc := rfl
@[simp] theorem State.clearWork_adc (s : State) : s.clearWork.adc = s.adc := rfl
@[simp] theorem State.withTgt_cad (s : State) (t : Targets) : (s.withTgt t).cad = s.cad := rfl
@[simp] theorem State.clearWork_cad (s : State) : s.clearWork.cad = s.cad := rfl
@[simp] theorem State.withTgt_whl (s : State) (t : Targets) : (s.withTgt t).whl = s.whl := rfl
@[simp] theorem State.clearWork_whl (s : State) : s.clearWork.whl = s.whl := rfl
@[simp] theorem State.withTgt_tq (s : State) (t : Targets) : (s.withTgt t).tq = s.tq := rfl
@[simp] theorem State.clearWork_tq (s : State) : s.clearWork.tq = s.tq := rfl
@[simp] theorem State.withTgt_asst (s : State) (t : Targets) : (s.withTgt t).asst = s.asst := rfl
@[simp] theorem State.clearWork_asst (s : State) : s.clearWork.asst = s.asst := rfl
@[simp] theorem State.withTgt_ctl (s : State) (t : Targets) : (s.withTgt t).ctl = s.ctl := rfl
@[simp] theorem State.clearWork_ctl (s : State) : s.clearWork.ctl = s.ctl := rfl
@[simp] theorem State.withTgt_cmdIn (s : State) (t : Targets) : (s.withTgt t).cmdIn = s.cmdIn := rfl
@[simp] theorem State.clearWork_cmdIn (s : State) : s.clearWork.cmdIn = s.cmdIn := rfl
@[simp] theorem State.withTgt_cmd (s : State) (t : Targets) : (s.withTgt t).cmd = s.cmd := rfl
@[simp] theorem State.clearWork_cmd (s : State) : s.clearWork.cmd = s.cmd := rfl
@[simp] theorem State.withTgt_cfg (s : State) (t : Targets) : (s.withTgt t).cfg = s.cfg := rfl
@[simp] theorem State.clearWork_cfg (s : State) : s.clearWork.cfg = s.cfg := rfl
@[simp] theorem State.withTgt_snap (s : State) (t : Targets) : (s.withTgt t).snap = s.snap := rfl
@[simp] theorem State.clearWork_snap (s : State) : s.clearWork.snap = s.snap := rfl
@[simp] theorem State.withTgt_pend (s : State) (t : Targets) : (s.withTgt t).pend = s.pend := rfl
@[simp] theorem State.clearWork_pend (s : State) : s.clearWork.pend = s.pend := rfl
@[simp] theorem State.withTgt_inbox (s : State) (t : Targets) : (s.withTgt t).inbox = s.inbox := rfl
@[simp] theorem State.clearWork_inbox (s : State) : s.clearWork.inbox = s.inbox := rfl
@[simp] theorem State.withTgt_freeCount (s : State) (t : Targets) : (s.withTgt t).freeCount = s.freeCount := rfl
@[simp] theorem State.clearWork_freeCount (s : State) : s.clearWork.freeCount = s.freeCount := rfl
@[simp] theorem State.clearWork_work (s : State) : s.clearWork.work = Work.zero := rfl

/-- A guarded step answers a next state exactly when its condition holds, and then the state it was given. -/
theorem guarded_eq_next (ok : Bool) (r : Refusal) (s t : State) :
    guarded ok r s = .next t ↔ ok = true ∧ t = s := by
  cases ok <;> simp [guarded, eq_comm]

end Sys2Proof.Machine
end

