-- ==== Sys2Proof/Laws/Shared.lean ====
section
/-! SUPPORT. What the shared operations can do, each said once: the table reads, the Hall acceptance, the trip bits, the fault gate,
the delivery of an item. -/

namespace Sys2Proof.Laws

open Sys2Proof.Machine

/-- The reference parameter set meets every constraint. -/
theorem refParams_wf : refParams.wf = true := by decide

/-- `P_CFG` is a legal record. -/
theorem refCfg_legal : refCfg.legal = true := by decide

/-- The fixture curves do not decrease (rule R7). -/
theorem emtbTest_mono (c p q : Nat) (h : p ≤ q) : emtbTest c p ≤ emtbTest c q :=
  Nat.div_le_div_right (Nat.mul_le_mul_right _ (Nat.mul_le_mul h h))

/-- An entry of an SVM table is a u8, and one of the fixture lies within 64 of its midpoint (rule R70, `95_test_vectors.md` section 1.1). -/
theorem svmRead_range (t : SvmTable) (idx : U8) :
    svmRead t idx ≤ 255 ∧ (t = .fixture → 43 ≤ svmRead t idx ∧ svmRead t idx ≤ 171) := by
  cases t with
  | fixture =>
    have h := idx.isLt
    simp only [svmRead, svmTest]
    split
    · omega
    · split <;> omega
  | given entries =>
    have h := (entries.get ⟨idx.toNat, idx.isLt⟩).isLt
    exact ⟨by simp only [svmRead]; omega, nofun⟩

/-- A well-formed set meets the constraint on PWM_MID, or has the values of P_REF in it (rule R7, log entry 6). -/
theorem wf_pwmMid (p : Params) (h : p.wf = true) : p.pwmMidBound = true ∨ p.pwmMidOfRef = true := by
  have := List.all_eq_true.mp h ("PWM_MID", p.pwmMidBound || p.pwmMidOfRef) (by simp [Params.checks])
  simpa using this

/-- The scaled deviation of a table entry stays within PWM_MID at any duty the hardware allows, above the midpoint and below it
(rules R7, R164). -/
theorem svm_deviation_le (p : Params) (h : p.wf = true) (idx : U8) (duty : Nat) (hd : duty ≤ p.dutyMax) :
    (svmRead p.svmTable idx - p.svmMid) * duty / 256 ≤ p.pwmMid ∧ (p.svmMid - svmRead p.svmTable idx) * duty / 256 ≤ p.pwmMid := by
  obtain ⟨h255, hfix⟩ := svmRead_range p.svmTable idx
  have key : ∀ e m : Nat, e ≤ m → m * p.dutyMax / 256 ≤ p.pwmMid → e * duty / 256 ≤ p.pwmMid := fun e m he hm =>
    Nat.le_trans (Nat.div_le_div_right (Nat.mul_le_mul he hd)) hm
  rcases wf_pwmMid p h with hb | hr
  · simp only [Params.pwmMidBound, decide_eq_true_eq] at hb
    exact ⟨key _ _ (by omega) hb, key _ _ (by omega) hb⟩
  · simp only [Params.pwmMidOfRef, decide_eq_true_eq] at hr
    obtain ⟨ht, hm, hx, hw⟩ := hr
    have := hfix ht
    have h64 : 64 * p.dutyMax / 256 ≤ p.pwmMid := by rw [hx, hw]; decide
    exact ⟨key _ _ (by omega) h64, key _ _ (by omega) h64⟩

/-- An entry of an arcsine table is a u8 (rule R70). -/
theorem asinRead_le (t : AsinTable) (a : Nat) : asinRead t a ≤ 255 := by
  cases t with
  | fixture => simp only [asinRead, asinTest]; omega
  | given entries =>
    have h := (entries.get ⟨min a 127, by omega⟩).isLt
    simp only [asinRead]; omega

/-- Rule R133 as one equivalence. -/
theorem hallAccept_iff (last hall : U3) :
    hallAccept last hall = true ↔
      hall ≠ 0 ∧ hall ≠ 7 ∧ hall ≠ last ∧ (last = 0 ∨ hallNext last = some hall) := by
  revert last hall; decide

/-- A direction DOWN is a trip condition that holds (rule R202). -/
theorem trip_bits_ne_zero (t : Trip) :
    t.bits ≠ 0 ↔ t.c1 = true ∨ t.c2 = true ∨ t.c3 = true ∨ t.c4 = true ∨ t.c5 = true ∨ t.c6 = true := by
  rcases t with ⟨_ | _, _ | _, _ | _, _ | _, _ | _, _ | _⟩ <;> decide

/-- FAULT_GATE passes the targets through with NO_ERROR and zeroes them under a fault (rules R343, R388, R389). -/
theorem faultGateTargets_cases (p : Params) (x : SysState) (t : Targets) :
    (x = .noError ∧ faultGateTargets p x t = t)
      ∨ (x ≠ .noError ∧ faultGateTargets p x t = { t with i := 0, dutyTgt := 0, down := p.rampDownMin }) := by
  cases x
  · exact .inl ⟨rfl, rfl⟩
  all_goals exact .inr ⟨by decide, rfl⟩

/-- A delivery that answers a next state found the parameters well formed, and either had nothing to deliver or ran what its item
decodes to. -/
theorem deliver_cases (run : Instr → State → Host.Outcome State Fault Refusal) (s t : State)
    (h : deliver run s = .next t) :
    s.par.wf = true ∧ ((s.inbox = [] ∧ t = s)
      ∨ ∃ x rest i, s.inbox = x :: rest ∧ decode x = .ok i ∧ run i (s.withInbox rest) = .next t) := by
  unfold deliver at h
  split at h
  · next hw =>
    refine ⟨hw, ?_⟩
    split at h
    · next hi => exact .inl ⟨hi, by cases h; rfl⟩
    · next x rest hi =>
      unfold runItem at h
      split at h
      · next i hd => exact .inr ⟨x, rest, i, hi, hd, h⟩
      · cases h
  · cases h

end Sys2Proof.Laws
end

