-- ==== Sys2Proof/Tests/Slice0.lean ====
section
/-! SUPPORT. The model's own tests: the words of `30_encoding.md` written out and decoded, what WellFormed refuses, one step of each
instruction against the vectors of `95_test_vectors.md` (cited by row), and for each statement with hypotheses a state and operands
that meet them (`test_hyp_<statement>`), at the ends of their ranges. -/

open Sys2Proof Sys2Proof.Machine

/-! ### Helpers -/

/-- Configured with `P_CFG` right after reset. -/
def testBase : State := (State.resetWith refParams refCfg [] 0).withAsst { (State.resetWith refParams refCfg [] 0).asst with cfgValid := true }

/-- The instruction answers a next state that passes the check. -/
def testNext (i : Instr) (s : State) (f : State → Bool) : Bool :=
  match exec i s with
  | .next t => f t
  | .fault _ => false
  | .refused _ => false

/-- The instruction is refused for the reason given. -/
def testRefused (i : Instr) (s : State) (r : Refusal) : Bool :=
  match exec i s with
  | .next _ => false
  | .fault _ => false
  | .refused q => decide (q = r)

/-- A step answers a next state. -/
def testSteps (s : State) : Bool :=
  match step s with
  | .next _ => true
  | .fault _ => false
  | .refused _ => false

/-- A step on the item is refused for the reason given. -/
def testStepRefused (x : Input) (s : State) (r : Refusal) : Bool :=
  match step (s.withInbox [x]) with
  | .next _ => false
  | .fault _ => false
  | .refused q => decide (q = r)

/-! ### Decoding, from the words of the spec -/

/-- Rows EW1 to EW13, written out from the table of rule R101. -/
theorem test_decode_events :
    ∀ r ∈ ([(0x00000000, .reset), (0x300603E8, .hallEdge 1000 6), (0x3007FFFF, .hallEdge 65535 7),
        (0b01000010001010000000001010000110, .pwmRising 552 40 false true 2), (0x42280008, .pwmRising 552 0 true false 0),
        (0x4FFFFFFF, .pwmRising 4095 4095 true true 3), (0x50001D4C, .pwmFalling 7500), (0x600460BA, .tickBegin 70 186),
        (0x60000096, .tickBegin 0 150), (0x70000000, .tickEnd), (0x80000000, .evReserved 0),
        (0xFFFFFFFF, .evReserved 0x7FFFFFFF)] : List (U32 × Instr)),
      decode (.event r.1 .nothing) = .ok r.2 := by decide

theorem test_decode_records :
    decode (.event 0x10000000 (.cfg refCfg)) = .ok (.cfgLoad refCfg)
      ∧ decode (.event 0x20000000 (.cmd CmdRec.empty)) = .ok (.cmdRx CmdRec.empty) := by decide

/-- Sub-operation codes of rule R103, operands where the parent's event word has them (rule R101). -/
theorem test_decode_sub_pwm :
    ∀ r ∈ ([(0x41, 0x00000280, .ibatFilter 40), (0x42, 0x02280008, .pinLatch 552 true), (0x43, 0x00000002, .cadStep 2),
        (0x44, 0x00000004, .whlStep true), (0x45, 0, .rampStep), (0x51, 0x00001D4C, .stallCheck 7500), (0x52, 0, .erpsDerive),
        (0x53, 0, .interp), (0x54, 0, .svmSynth), (0x55, 0, .cmpCommit)] : List (U8 × U32 × Instr)),
      decode (.row .sub r.1 r.2.1) = .ok r.2.2 := by decide

theorem test_decode_sub_main :
    ∀ r ∈ ([(0x61, 0, .cmdLatch), (0x62, 0, .snapshot), (0x63, 0, .vbatFilter), (0x64, 0, .whlSpeed), (0x65, 0, .cadRpm),
        (0x66, 0x000000BA, .tqAcquire 186), (0x67, 0, .faultDetect), (0x68, 0, .modePolicy), (0x69, 0x00046000, .postProcess 70),
        (0x6A, 0, .globalCaps), (0x6B, 0, .focUpdate), (0x6C, 0x00046000, .telemetryStage 70), (0x71, 0, .publish),
        (0x72, 0, .pwmGate)] : List (U8 × U32 × Instr)),
      decode (.row .sub r.1 r.2.1) = .ok r.2.2 := by decide

/-- The Hall patterns of rules R104 and R105. -/
theorem test_decode_hall :
    ∀ r ∈ ([(0b110, .hallS0 1000), (0b010, .hallS1 1000), (0b011, .hallS2 1000), (0b001, .hallS3 1000), (0b101, .hallS4 1000),
        (0b100, .hallS5 1000), (0b000, .hallInv0 1000), (0b111, .hallInv7 1000)] : List (U8 × Instr)),
      decode (.row .hall3 r.1 0x000003E8) = .ok r.2 := by decide

/-- The pairs of rule R106: old state, then new state. -/
theorem test_decode_pas :
    ∀ r ∈ ([(0b0000, .pas00Same), (0b0001, .pas01Bwd), (0b0010, .pas02Fwd), (0b0011, .pas03Bwd), (0b0100, .pas10Fwd),
        (0b0101, .pas11Same), (0b0110, .pas12Bwd), (0b0111, .pas13Bwd), (0b1000, .pas20Bwd), (0b1001, .pas21Bwd),
        (0b1010, .pas22Same), (0b1011, .pas23Fwd), (0b1100, .pas30Bwd), (0b1101, .pas31Fwd), (0b1110, .pas32Bwd),
        (0b1111, .pas33Same)] : List (U8 × Instr)),
      decode (.row .pas4 r.1 0) = .ok r.2 := by decide

/-- The codes of rules R109 to R113 and R118. -/
theorem test_decode_codes :
    (∀ r ∈ ([(0, .modeOff), (1, .modePowerAssist), (2, .modeEmtbAssist), (3, .modeWalkAssist), (4, .modeCruise),
        (5, .modeMotorCalibration), (6, .modeReserved 6), (255, .modeReserved 255)] : List (U8 × Instr)),
      decode (.row .mode r.1 0) = .ok r.2)
    ∧ (∀ r ∈ ([(0, .sysNoError), (1, .sysMotorBlocked), (2, .sysTorqueSensorFault), (3, .sysCommLost)] : List (U8 × Instr)),
      decode (.row .sys r.1 0) = .ok r.2)
    ∧ decode (.row .cmode 0 0) = .ok .cmodeBlocked ∧ decode (.row .cmode 1 0) = .ok .cmodeInterpolated
    ∧ decode (.row .auxf 0 0) = .ok .auxfNone ∧ decode (.row .auxf 1 0x00046000) = .ok (.auxfThrottle 70)
    ∧ decode (.row .auxf 2 0x00046000) = .ok (.auxfTemperature 70) ∧ decode (.row .auxf 3 0) = .ok .auxfReserved
    ∧ decode (.row .mtype 0 0) = .ok .mtypeMotorA ∧ decode (.row .mtype 1 0) = .ok .mtypeMotorB := by decide

/-- Row EW15. -/
theorem test_decode_rejects_bits :
    decode (.event 0x00000001 .nothing) = .error .reservedBits ∧ decode (.event 0x30080000 .nothing) = .error .reservedBits
    ∧ decode (.event 0x51000000 .nothing) = .error .reservedBits ∧ decode (.event 0x61000000 .nothing) = .error .reservedBits
    ∧ decode (.event 0x70000001 .nothing) = .error .reservedBits := by decide

/-- A record where none belongs, a record that is missing, and codes of no row. -/
theorem test_decode_rejects :
    decode (.event 0x10000000 .nothing) = .error .missingRecord
    ∧ decode (.event 0x20000000 (.cfg refCfg)) = .error .strayRecord
    ∧ decode (.event 0x70000000 (.cmd CmdRec.empty)) = .error .strayRecord
    ∧ decode (.row .sub 0x46 0) = .error .unknownRow ∧ decode (.row .hall3 8 0) = .error .unknownRow
    ∧ decode (.row .sub 0x45 1) = .error .reservedBits := by decide

/-- A word of the table as the host numbers it. -/
theorem test_decode_table_word :
    decodeTableWord 32 0x600460BA = some (.tickBegin 70 186) ∧ decodeTableWord 32 0x10000000 = some (.cfgLoad refCfg)
    ∧ decodeTableWord 8 0x6B = some .focUpdate ∧ decodeTableWord 8 5 = some .modeMotorCalibration
    ∧ decodeTableWord 4 0b1101 = some .pas31Fwd ∧ decodeTableWord 3 4 = some (.hallS5 0)
    ∧ decodeTableWord 32 0x70000001 = none
    ∧ testSteps (State.reset.withFetchWord 8 0x45) = true := by decide

/-! ### What is refused as ill-formed -/

/-- The table of rule R7, first part: each set breaks the constraint of the parameter it changes, and no other set is refused for it. -/
theorem test_params_refused_1 :
    ∀ p ∈ ([("HALL_TICK_HZ", { refParams with hallTickHz := 0 }), ("MIN_INTERP_ERPS", { refParams with minInterpErps := 0 }),
        ("STALL_TICKS", { refParams with stallTicks := 10923 }), ("REV_SECTOR", { refParams with revSector := 6 }),
        ("REV_TICKS_INVALID", { refParams with revTicksInvalid := 65536 }), ("PWM_HZ", { refParams with pwmHz := 0 }),
        ("SVM_MID", { refParams with svmMid := 256, pwmMid := 300 }), ("PWM_MID", { refParams with pwmMid := 62 }),
        ("PHASE_A_OFFSET", { refParams with phaseAOffset := 256 }), ("PHASE_C_OFFSET", { refParams with phaseCOffset := 256 }),
        ("DUTY_MAX", { refParams with dutyMax := 256 }), ("FW_MAX", { refParams with fwMax := 256 }),
        ("DUTY_STARTUP", { refParams with dutyStartup := 255 }), ("ERPS_ENABLE_MAX", { refParams with erpsEnableMax := 0 }),
        ("PHASE_I_MAX", { refParams with phaseIMax := 65536 }), ("ERPS_MAX", { refParams with erpsMax := 65536 }),
        ("I_ADC_MAX", { refParams with iAdcMax := 65536 }), ("RAMP_UP_MIN", { refParams with rampUpMin := 0 }),
        ("RAMP_DOWN_MIN", { refParams with rampDownMin := 0 }), ("RAMP_UP_DEFAULT", { refParams with rampUpDefault := 256 }),
        ("RAMP_DOWN_DEFAULT", { refParams with rampDownDefault := 8 })] : List (String × Params)),
      p.2.wf = false ∧ (p.1, false) ∈ p.2.checks ∧ (p.1, true) ∈ refParams.checks := by decide

theorem test_params_refused_2 :
    ∀ p ∈ ([("I_SHIFT", { refParams with iShift := 9 }), ("V_SHIFT", { refParams with vShift := 9 }),
        ("ADC_I_MAX_SAMPLE", { refParams with adcIMaxSample := 65536 }), ("ADC_V_MAX_SAMPLE", { refParams with adcVMaxSample := 65536 }),
        ("ADC_T_MAX_SAMPLE", { refParams with adcTMaxSample := 65536 }),
        ("ADC_AUX_MAX_SAMPLE", { refParams with adcAuxMaxSample := 65536 }), ("MV_PER_VSTEP", { refParams with mvPerVstep := 0 }),
        ("MA_PER_ISTEP", { refParams with maPerIstep := 0 }), ("FOC_DUTY_LOW", { refParams with focDutyLow := 256 }),
        ("FOC_I_LOW", { refParams with focILow := 65536 }), ("FOC_ERPS_BAND", { refParams with focErpsBandLo := 501 }),
        ("FOC_SHIFT", { refParams with focShift := 9 }), ("PAS_PREV_VALID", { refParams with pasPrevValid := #v[1, 0, 3, 2] }),
        ("PAS_CYCLES_PER_REV", { refParams with pasCyclesPerRev := 0 }),
        ("CAD_TICKS_STARTUP", { refParams with cadTicksStartup := 0 }), ("CAD_SCHMITT", { refParams with cadSchmitt := 65536 }),
        ("CAD_STOP_TICKS_SLOW", { refParams with cadStopTicksSlow := 0 }), ("CAD_STOP_TICKS_FAST", { refParams with cadStopTicksFast := 0 }),
        ("CAD_ADJ_SPEED", { refParams with cadAdjSpeedLo := 400 }), ("CAD_SYNTH_RPM", { refParams with cadSynthRpm := 0 }),
        ("WHL_TICKS_MIN", { refParams with whlTicksMin := 65536 }), ("WHL_TICKS_MAX", { refParams with whlTicksMax := 165 })]
        : List (String × Params)),
      p.2.wf = false ∧ (p.1, false) ∈ p.2.checks ∧ (p.1, true) ∈ refParams.checks := by decide

theorem test_params_refused_3 :
    ∀ p ∈ ([("TICK_PERIOD_MS", { refParams with tickPeriodMs := 0 }), ("TQ_ZERO_TICKS", { refParams with tqZeroTicks := 0 }),
        ("TQ_OFF_SHIFT", { refParams with tqOffShift := 9 }), ("TQ_OFFSET_BOUNDS", { refParams with tqOffsetMin := 301 }),
        ("TQ_RAW_BOUNDS", { refParams with tqRawMin := 501 }), ("TQ_W_TO_X100_DEN", { refParams with tqWToX100Den := 0 }),
        ("PEDAL_POWER_DIV", { refParams with pedalPowerDiv := 0 }), ("POWER_MULT_DIV", { refParams with powerMultDiv := 0 }),
        ("TORQUE_MULT_DIV", { refParams with torqueMultDiv := 0 }), ("RAMP_SPEED", { refParams with rampSpeedLo := 200 }),
        ("RAMP_CAD", { refParams with rampCadLo := 70 }), ("RAMP_UP_AT_REST", { refParams with rampUpAtRest := 23 }),
        ("RAMP_DOWN_AT_REST", { refParams with rampDownAtRest := 8 }),
        ("EMTB_TABLE", { refParams with emtbTable := .given (Vector.replicate 10 ((Vector.replicate 241 0).set 0 1)) }),
        ("WALK_SPEED_MAX_X10", { refParams with walkSpeedMaxX10 := 65536 }), ("WALK_DUTY_MAX", { refParams with walkDutyMax := 255 }),
        ("WALK_I_MAX", { refParams with walkIMax := 65536 }), ("WALK_RAMP_UP", { refParams with walkRampUp := 23 }),
        ("WALK_RAMP_DOWN", { refParams with walkRampDown := 8 })] : List (String × Params)),
      p.2.wf = false ∧ (p.1, false) ∈ p.2.checks ∧ (p.1, true) ∈ refParams.checks := by decide

theorem test_params_refused_4 :
    ∀ p ∈ ([("CRUISE_SPEED_MIN_X10", { refParams with cruiseSpeedMinX10 := 65536 }), ("CRUISE_KI_DIV", { refParams with cruiseKiDiv := 0 }),
        ("CRUISE_I_SEED", { refParams with cruiseISeed := 1001 }), ("CRUISE_I_LIMIT", { refParams with cruiseILimit := 0 }),
        ("CRUISE_OUT_MAX", { refParams with cruiseOutMax := 0 }), ("CRUISE_RAMP_UP", { refParams with cruiseRampUp := 23 }),
        ("CRUISE_RAMP_DOWN", { refParams with cruiseRampDown := 8 }), ("CAL_DUTY_MAX", { refParams with calDutyMax := 254 }),
        ("CAL_RAMP_UP", { refParams with calRampUp := 23 }), ("CAL_RAMP_DOWN", { refParams with calRampDown := 8 }),
        ("FW_BONUS_MIN_ANGLE", { refParams with fwBonusMinAngle := 256 }), ("FW_BONUS_DEN", { refParams with fwBonusDen := 0 }),
        ("THR_ADC", { refParams with thrAdcMin := 176 }), ("THR_RAMP_UP", { refParams with thrRampUpHi := 23 }),
        ("THR_RAMP_DOWN", { refParams with thrRampDown := 8 }), ("THR_SPEED", { refParams with thrSpeedLo := 400 }),
        ("SPEED_WIN", { refParams with speedWin := 50 }), ("MB_I_MIN", { refParams with mbIMin := 65536 }),
        ("MB_ERPS_MAX", { refParams with mbErpsMax := 65536 }), ("MB_TICKS", { refParams with mbTicks := 0 }),
        ("MB_COOLDOWN_TICKS", { refParams with mbCooldownTicks := 8 }), ("COMM_MISS_MAX", { refParams with commMissMax := 256 })]
        : List (String × Params)),
      p.2.wf = false ∧ (p.1, false) ∈ p.2.checks ∧ (p.1, true) ∈ refParams.checks := by decide

/-- Every check of rule R7's table is broken by a set above. -/
theorem test_params_all_checks : refParams.wf = true ∧ refParams.checks.length = 84 := by decide

/-- The legal ranges of rules R40 and R354. -/
theorem test_records_refused :
    refCfg.legal = true
    ∧ (∀ r ∈ ([("wheel_perimeter_mm", { refCfg with wheelPerimeterMm := 0 }), ("aux_function", { refCfg with auxFunction := .reserved }),
        ("tq_lin x[0]", { refCfg with tqLin := #v[⟨0, 50⟩, ⟨40, 120⟩, ⟨60, 200⟩, ⟨80, 300⟩, ⟨100, 420⟩, ⟨120, 560⟩] }),
        ("tq_lin x", { refCfg with tqLin := #v[⟨20, 50⟩, ⟨20, 120⟩, ⟨60, 200⟩, ⟨80, 300⟩, ⟨100, 420⟩, ⟨120, 560⟩] }),
        ("tq_lin y", { refCfg with tqLin := #v[⟨20, 50⟩, ⟨40, 49⟩, ⟨60, 200⟩, ⟨80, 300⟩, ⟨100, 420⟩, ⟨120, 560⟩] })]
        : List (String × CfgRec)), r.2.legal = false ∧ (r.1, false) ∈ r.2.checks)
    ∧ ({ CmdRec.empty with hasAuxFunction := true, auxFunction := .reserved } : CmdRec).legal = false
    ∧ ({ CmdRec.empty with auxFunction := .reserved } : CmdRec).legal = true := by decide

/-- Operands above their maxima, illegal records and reserved codes (rules R102, R117, R112, R118). -/
theorem test_instr_refused :
    (∀ i ∈ ([.cfgLoad unloadedCfg, .cmdRx { CmdRec.empty with hasAuxFunction := true, auxFunction := .reserved },
        .pwmRising 1024 0 false false 0, .pwmRising 0 256 false false 0, .tickBegin 256 0, .tickBegin 0 1024, .evReserved 0,
        .ibatFilter 256, .pinLatch 1024 false, .tqAcquire 1024, .postProcess 256, .telemetryStage 256, .auxfThrottle 256,
        .auxfTemperature 256, .auxfReserved, .modeReserved 5] : List Instr), i.wf refParams = false)
    ∧ (∀ i ∈ ([.cfgLoad refCfg, .cmdRx CmdRec.empty, .pwmRising 1023 255 true true 3, .tickBegin 255 1023, .ibatFilter 255,
        .pinLatch 1023 true, .tqAcquire 1023, .postProcess 255, .telemetryStage 255, .auxfThrottle 255, .auxfTemperature 255,
        .modeReserved 6] : List Instr), i.wf refParams = true)
    ∧ (Instr.modeReserved 5).encodable = false ∧ (Instr.modeReserved 6).encodable = true := by decide

/-! ### One step of each instruction -/

/-- After row H7: one revolution measured. -/
def testTurned : State := testBase.withRotor
  { testBase.rotor with
    hallLast := 6, sector := 0, sectorAngle := 213, hallRefTick := 7000, calTicks := #v[1000, 1000, 1000, 1000, 1000, 1000],
    revRefTick := 7000, revRefValid := true, revTicks := 6000, commMode := .interpolated }

/-- The riding state of section 3.11: window closed, `vbat_filt` 552, `speed` 150, `cadence` 60, `tq_delta` 30. -/
def testRiding : State :=
  (((testBase.withTq { testBase.tq with tqRaw := 186, tqBootCnt := 200, tqOffset := 156, tqDelta := 30, torqueX100 := 2010 }).withAdc
      { testBase.adc with vbatRaw := 552, vbatAcc := 2208, vbatFilt := 552 }).withWhl
    { testBase.whl with whlTicks := 9371, whlStarted := true, wheelSpeedX10 := 150 }).withCad
    { testBase.cad with cadTicks := 952, cadRef := some 2, cadenceRpm := 60 }

/-- `testRiding` in a riding mode. -/
def testMode (m : Mode) (param : U8) : State := testRiding.withCtl { testRiding.ctl with mode := m, modeParam := param }

/-- The drive of the rows RP: `vbat_raw` 500, `erps` 200. -/
def testDrive (duty dutyTarget fw : U8) (ibat iTarget : U16) (fwOn brake : Bool) : State :=
  ((testBase.withDrive
      { testBase.drive with duty := duty, dutyTarget := dutyTarget, fwAngle := fw, iTarget := iTarget, fwEnabled := fwOn }).withAdc
    { testBase.adc with ibatFilt := ibat, brake := brake, vbatRaw := 500 }).withRotor { testBase.rotor with erps := 200 }

/-- Section 3.15: RESET from a state in use; then a Hall edge is refused. -/
theorem test_reset :
    testNext .reset testTurned (fun t => decide (t.rotor = State.reset.rotor ∧ t.drive.rampUpPeriod = 194
      ∧ t.drive.rampDownPeriod = 73 ∧ t.out.cmpA = 107 ∧ t.cad.cadStopMin = 4270 ∧ t.asst.cfgValid = false)) = true
    ∧ testRefused (.hallEdge 0 6) State.reset .notConfigured = true := by decide

/-- Row CL4: every override is withdrawn. -/
theorem test_cfgLoad :
    testNext (.cfgLoad refCfg) (State.reset.withCmd { CmdRec.empty with flags := 1, hasIMax := true, iMax := 50 }) (fun t =>
      decide (t.cfg = refCfg ∧ t.asst.cfgValid = true ∧ t.cmd.hasIMax = false ∧ effIMax t = 100 ∧ t.cmd.flags = 1)) = true
    ∧ testRefused (.cfgLoad unloadedCfg) State.reset .illegalConfiguration = true := by decide

theorem test_cmdRx :
    testNext (.cmdRx { CmdRec.empty with mode := 3, modeParam := 40 }) testBase (fun t =>
      decide (t.cmdIn.mode = 3 ∧ t.asst.cmdPending = true ∧ t.ctl.mode = .off)) = true
    ∧ testRefused (.cmdRx { CmdRec.empty with hasAuxFunction := true, auxFunction := .reserved }) testBase .reservedAuxFunction
      = true := by decide

/-- Row H1. -/
theorem test_hallEdge_first :
    testNext (.hallEdge 1000 6) testBase (fun t => decide (t.rotor.sector = 0 ∧ t.rotor.sectorAngle = 213
      ∧ t.rotor.calTicks[0] = 1000 ∧ t.rotor.hallRefTick = 1000 ∧ t.rotor.revTicks = 65535 ∧ t.rotor.commMode = .blocked
      ∧ t.rotor.revRefValid = true ∧ t.rotor.revRefTick = 1000)) = true := by decide

/-- The last edge of row H7, and row H8. -/
theorem test_hallEdge_turn :
    testNext (.hallEdge 7000 6) (testTurned.withRotor { testTurned.rotor with
        hallLast := 4, sector := 5, hallRefTick := 6000, revRefTick := 1000, revTicks := 65535, commMode := .blocked })
      (fun t => decide (t.rotor = testTurned.rotor)) = true
    ∧ testNext (.hallEdge 7600 4) testTurned (fun t => decide (t = testTurned)) = true := by decide

/-- Row EW8 in the state of row RP14's fifth step. -/
theorem test_pwmRising :
    testNext (.pwmRising 552 40 true false 2) ((testDrive 10 40 0 0 50 false false).withDrive
        { (testDrive 10 40 0 0 50 false false).drive with rampUpCnt := 5 }) (fun t =>
      decide (t.adc.vbatRaw = 552 ∧ t.adc.ibatAcc = 40 ∧ t.adc.ibatFilt = 10 ∧ t.adc.brake = true ∧ t.cad.pasOld = 2
        ∧ t.cad.cadRef = some 2 ∧ t.drive.rampUpCnt = 0 ∧ t.drive.rampDownCnt = 1 ∧ t.drive.duty = 10)) = true
    ∧ testRefused (.pwmRising 4095 4095 true true 3) testBase .adcAboveMaximum = true := by decide

/-- Rows ST1 and ST3 with `duty` 100 (rows SV6 and SV8). -/
theorem test_pwmFalling :
    testNext (.pwmFalling 7500) (testTurned.withDrive { testTurned.drive with duty := 100 }) (fun t =>
      decide (t.rotor.erps = 41 ∧ t.out.cmpA = 99 ∧ t.out.cmpB = 99 ∧ t.out.cmpC = 131 ∧ t.work = Work.zero)) = true
    ∧ testNext (.pwmFalling 11167) ((testTurned.withDrive { testTurned.drive with duty := 100 }).withFoc { focAngle := 5, focAcc := 0 })
      (fun t => decide (t.rotor.erps = 0 ∧ t.rotor.commMode = .blocked ∧ t.rotor.revTicks = 65535 ∧ t.rotor.revRefValid = false
        ∧ t.foc.focAngle = 0 ∧ t.out.cmpA = 107 ∧ t.out.cmpB = 91 ∧ t.out.cmpC = 123)) = true := by decide

/-- Program P2, line (1). -/
theorem test_tickBegin :
    testNext (.tickBegin 0 150) ((testBase.withCmdIn { CmdRec.empty with mode := 5, modeParam := 100 }).withAsst
        { testBase.asst with cmdPending := true } |>.withAdc { testBase.adc with vbatRaw := 552 }) (fun t =>
      decide (t.adc.vbatFilt = 138 ∧ t.pend.iTarget = 100 ∧ t.pend.dutyTarget = 100 ∧ t.pend.rampUpPeriod = 24
        ∧ t.pend.rampDownPeriod = 9 ∧ t.tq.tqOffAcc = 150 ∧ t.tq.tqOffset = 9 ∧ t.foc.focAcc = 63 ∧ t.pend.focAngle = 3
        ∧ t.asst.tickOpen = true ∧ t.pend.tlm.hasCal = true)) = true
    ∧ testRefused (.tickBegin 0 150) (testBase.withAsst { testBase.asst with tickOpen := true }) .tickAlreadyOpen = true := by decide

/-- The TICK_END of that line. -/
theorem test_tickEnd :
    testNext .tickEnd ((testBase.withPend { testBase.pend with
          iTarget := 100, dutyTarget := 100, rampUpPeriod := 24, rampDownPeriod := 9, focAngle := 3 }).withAsst
        { testBase.asst with tickOpen := true }) (fun t =>
      decide (t.out.pwmEnabled = true ∧ t.drive.duty = 30 ∧ t.drive.rampUpPeriod = 24 ∧ t.drive.rampDownPeriod = 9
        ∧ t.drive.iTarget = 100 ∧ t.foc.focAngle = 3 ∧ t.asst.tickOpen = false)) = true
    ∧ testRefused .tickEnd testBase .tickNotOpen = true := by decide

theorem test_evReserved :
    testRefused (.evReserved 0) testBase .reservedEventCode = true
    ∧ testStepRefused (.event 0xFFFFFFFF .nothing) testBase .reservedEventCode = true
    ∧ testStepRefused (.event 0x70000001 .nothing) testBase .reservedBits = true := by decide

/-- Section 3.13, second sample. -/
theorem test_ibatFilter :
    testNext (.ibatFilter 40) (testBase.withAdc { testBase.adc with ibatAcc := 40, ibatFilt := 10 }) (fun t =>
      decide (t.adc.ibatAcc = 70 ∧ t.adc.ibatFilt = 17)) = true := by decide

theorem test_pinLatch :
    testNext (.pinLatch 552 true) testBase (fun t => decide (t.adc.vbatRaw = 552 ∧ t.adc.brake = true)) = true := by decide

/-- Row CD3 at step 500, and row CD5 at step 300. -/
theorem test_cadStep :
    testNext (.cadStep 2) (testBase.withCad { testBase.cad with
        cadRef := some 2, cadCounter := 400, cadTicks := 7619, cadStopCnt := 100, cadStopMin := 4697 }) (fun t =>
      decide (t.cad.cadTicks = 400 ∧ t.cad.cadCounter = 1 ∧ t.cad.cadStopCnt = 1 ∧ t.cad.pasOld = 2)) = true
    ∧ testNext (.cadStep 2) (testBase.withCad { testBase.cad with pasOld := 3, cadRef := some 2, cadCounter := 200, cadTicks := 7619 })
      (fun t => decide (t.cad.cadTicks = 0 ∧ t.cad.cadCounter = 0 ∧ t.cad.cadRef = none ∧ t.cad.pasOld = 2)) = true := by decide

/-- Rows WH4 and WH3. -/
theorem test_whlStep :
    testNext (.whlStep true) (testBase.withWhl { testBase.whl with whlStarted := true, whlCounter := 165 }) (fun t =>
      decide (t.whl.whlTicks = 165 ∧ t.whl.whlTotal = 1 ∧ t.whl.whlCounter = 1)) = true
    ∧ testNext (.whlStep true) (testBase.withWhl { testBase.whl with whlStarted := true, whlCounter := 164 }) (fun t =>
      decide (t.whl.whlTicks = 0 ∧ t.whl.whlTotal = 0 ∧ t.whl.whlCounter = 165)) = true := by decide

/-- Row RP2 at step 9, and row RP4 at step 194. -/
theorem test_rampStep :
    testNext .rampStep ((testDrive 100 100 0 20 50 false true).withDrive { (testDrive 100 100 0 20 50 false true).drive with rampDownCnt := 8 })
      (fun t => decide (t.drive.duty = 99 ∧ t.drive.rampDownCnt = 0)) = true
    ∧ testNext .rampStep ((testDrive 254 254 0 40 50 true false).withDrive { (testDrive 254 254 0 40 50 true false).drive with rampUpCnt := 193 })
      (fun t => decide (t.drive.fwAngle = 1 ∧ t.drive.rampUpCnt = 0 ∧ t.drive.duty = 254)) = true := by decide

/-- Rows ST2 and ST3. -/
theorem test_stallCheck :
    testNext (.stallCheck 11166) testTurned (fun t => decide (t.rotor = testTurned.rotor ∧ t.work.raw = 4166)) = true
    ∧ testNext (.stallCheck 11167) testTurned (fun t =>
      decide (t.rotor.commMode = .blocked ∧ t.rotor.revTicks = 65535 ∧ t.work.raw = 4167)) = true := by decide

/-- Rows ER5 and ER6. -/
theorem test_erpsDerive :
    testNext .erpsDerive (testTurned.withRotor { testTurned.rotor with revTicks := 384 }) (fun t => decide (t.rotor.erps = 651)) = true
    ∧ testNext .erpsDerive (testTurned.withRotor { testTurned.rotor with revTicks := 0 }) (fun t => decide (t.rotor.erps = 65535))
      = true := by decide

/-- Rows IN4 and IN7. -/
theorem test_interp :
    testNext .interp ((testTurned.withRotor { testTurned.rotor with sectorOffset := 100 }).withWork { Work.zero with raw := 500 })
      (fun t => decide (t.work.interp = 25)) = true
    ∧ testNext .interp ((testTurned.withRotor { testTurned.rotor with revTicks := 500 }).withWork { Work.zero with raw := 4000 })
      (fun t => decide (t.work.interp = 0)) = true := by decide

/-- Rows SV1 and SV4. -/
theorem test_svmSynth :
    testNext .svmSynth ((((testBase.withRotor { testBase.rotor with sectorAngle := 213 }).withFoc { focAngle := 3, focAcc := 0 }).withDrive
        { testBase.drive with duty := 128 }).withWork { Work.zero with interp := 21 })
      (fun t => decide (t.work.newA = 95 ∧ t.work.newB = 98 ∧ t.work.newC = 138 ∧ t.out = testBase.out)) = true
    ∧ testNext .svmSynth ((((testBase.withRotor { testBase.rotor with sectorAngle := 171 }).withFoc { focAngle := 10, focAcc := 0 }).withDrive
        { testBase.drive with duty := 60 }).withWork { Work.zero with interp := 250 })
      (fun t => decide (t.work.newA = 115 ∧ t.work.newB = 96 ∧ t.work.newC = 107)) = true := by decide

theorem test_cmpCommit :
    testNext .cmpCommit (testBase.withWork { Work.zero with newA := 95, newB := 98, newC := 138 }) (fun t =>
      decide (t.out.cmpA = 95 ∧ t.out.cmpB = 98 ∧ t.out.cmpC = 138)) = true := by decide

/-- Rows CL1 and FD6. -/
theorem test_cmdLatch :
    testNext .cmdLatch ((testBase.withCmdIn { CmdRec.empty with mode := 9, modeParam := 77, flags := 1 }).withAsst
        { testBase.asst with cmdPending := true, commMissed := 3 }) (fun t =>
      decide (t.ctl.mode = .off ∧ t.ctl.modeParam = 77 ∧ t.asst.commMissed = 0 ∧ t.cmd.flags = 1 ∧ t.asst.cmdPending = false)) = true
    ∧ testNext .cmdLatch (testBase.withAsst { testBase.asst with commMissed := 255 }) (fun t => decide (t.asst.commMissed = 255))
      = true := by decide

theorem test_snapshot :
    testNext .snapshot (testTurned.withDrive { testTurned.drive with duty := 40, fwAngle := 1 }) (fun t =>
      decide (t.snap.duty = 40 ∧ t.snap.fwAngle = 1 ∧ t.snap.calTicks = testTurned.rotor.calTicks)) = true := by decide

/-- Row VF1, second tick; row VF2, first tick. -/
theorem test_vbatFilter :
    testNext .vbatFilter ((testBase.withAdc { testBase.adc with vbatAcc := 552, vbatFilt := 138 }).withSnap { testBase.snap with vbatRaw := 552 })
      (fun t => decide (t.adc.vbatAcc = 966 ∧ t.adc.vbatFilt = 241)) = true
    ∧ testNext .vbatFilter (testRiding.withSnap { testBase.snap with vbatRaw := 400 })
      (fun t => decide (t.adc.vbatAcc = 2056 ∧ t.adc.vbatFilt = 514)) = true := by decide

/-- Rows WS2 and WS7. -/
theorem test_whlSpeed :
    testNext .whlSpeed (testBase.withSnap { testBase.snap with whlTicks := 4000 }) (fun t => decide (t.whl.wheelSpeedX10 = 351)) = true
    ∧ testNext .whlSpeed ((testBase.withSnap { testBase.snap with whlTicks := 1 }).withCfg { refCfg with wheelPerimeterMm := 65535 })
      (fun t => decide (t.whl.wheelSpeedX10 = 65535)) = true := by decide

/-- Rows CR3 and CR6, and the timeouts of rule R251 at 220 and 400. -/
theorem test_cadRpm :
    testNext .cadRpm ((testBase.withSnap { testBase.snap with cadTicks := 400 }).withWhl { testBase.whl with wheelSpeedX10 := 220 })
      (fun t => decide (t.cad.cadenceRpm = 142 ∧ t.pend.cadStopMinAdj = 2306 ∧ t.cad.cadStopMinAdj = 4270)) = true
    ∧ testNext .cadRpm ((testBase.withSnap { testBase.snap with cadTicks := 223 }).withWhl { testBase.whl with wheelSpeedX10 := 400 })
      (fun t => decide (t.cad.cadenceRpm = 255 ∧ t.pend.cadStopMinAdj = 341)) = true := by decide

/-- The close of the zeroing window, and row TL4x. -/
theorem test_tqAcquire :
    testNext (.tqAcquire 150) (testBase.withTq { testBase.tq with tqOffAcc := 2400, tqOffset := 150, tqBootCnt := 199 }) (fun t =>
      decide (t.tq.tqOffset = 156 ∧ t.tq.tqBootCnt = 200 ∧ t.tq.tqDelta = 0)) = true
    ∧ testNext (.tqAcquire 186) (testRiding.withCfg { refCfg with tqLinEnabled := true }) (fun t =>
      decide (t.tq.tqDelta = 30 ∧ t.tq.torqueX100 = 1419)) = true := by decide

/-- Row FD1 at tick 8, and row FD5a at 501. -/
theorem test_faultDetect :
    testNext .faultDetect ((testBase.withAsst { testBase.asst with mbCnt := 7 }).withSnap { testBase.snap with ibatFilt := 45 }) (fun t =>
      decide (t.asst.mbCnt = 0 ∧ t.asst.mbCooldown = 120 ∧ t.ctl.systemState = .motorBlocked)) = true
    ∧ testNext .faultDetect ((testMode .powerAssist 0).withTq { testRiding.tq with tqRaw := 501 }) (fun t =>
      decide (t.ctl.systemState = .torqueSensorFault)) = true := by decide

/-- Rows PA1 (before the caps) and CZ1. -/
theorem test_modePolicy :
    testNext .modePolicy (testMode .powerAssist 0) (fun t =>
      decide (t.work.tgt = { i := 32, dutyTgt := 254, up := 52, down := 25 })) = true
    ∧ testNext .modePolicy ((testMode .cruise 20).withWhl { testRiding.whl with wheelSpeedX10 := 180 }) (fun t =>
      decide (t.asst.cruiseIntegral = 520 ∧ t.asst.cruiseActive = true ∧ t.work.tgt.dutyTgt = 193 ∧ t.work.tgt.i = 100)) = true := by decide

/-- Row SL3, and row TL3 with the speed limit out of reach. -/
theorem test_postProcess :
    testNext (.postProcess 0) (((testRiding.withWhl { testRiding.whl with wheelSpeedX10 := 231 }).withCfg { refCfg with speedMax := 25 }).withTgt
        { i := 40, dutyTgt := 254, up := 52, down := 25 }) (fun t => decide (t.work.tgt.i = 39 ∧ t.asst.auxValue = 0)) = true
    ∧ testNext (.postProcess 51) ((testRiding.withCfg { refCfg with auxFunction := .temperature }).withTgt
        { i := 40, dutyTgt := 254, up := 52, down := 25 }) (fun t => decide (t.work.tgt.i = 39 ∧ t.asst.auxValue = 51)) = true := by decide

/-- Rows PA9 and PA12, and row EM7's gate. -/
theorem test_globalCaps :
    testNext .globalCaps ((testRiding.withTgt { i := 163, dutyTgt := 254, up := 52, down := 25 }).withCmd
        { CmdRec.empty with hasAccel := true, accel := 50 }) (fun t =>
      decide (t.pend.iTarget = 100 ∧ t.pend.dutyTarget = 254 ∧ t.pend.rampUpPeriod = 38 ∧ t.pend.rampDownPeriod = 25)) = true
    ∧ testNext .globalCaps ((testRiding.withTgt { i := 100, dutyTgt := 254, up := 52, down := 25 }).withCtl
        { testRiding.ctl with systemState := .torqueSensorFault }) (fun t =>
      decide (t.pend.iTarget = 0 ∧ t.pend.dutyTarget = 0 ∧ t.pend.rampUpPeriod = 52 ∧ t.pend.rampDownPeriod = 9)) = true := by decide

/-- Rows FC10 and FC13. -/
theorem test_focUpdate :
    testNext .focUpdate ((testBase.withSnap { testBase.snap with duty := 200, ibatFilt := 10, erps := 600 }).withCfg
        { refCfg with motorType := .motorB }) (fun t => decide (t.foc.focAcc = 9 ∧ t.pend.focAngle = 0)) = true
    ∧ testNext .focUpdate ((testBase.withSnap { testBase.snap with duty := 200, ibatFilt := 10, erps := 300 }).withFoc
        { focAngle := 0, focAcc := 256 }) (fun t => decide (t.foc.focAcc = 240 ∧ t.pend.focAngle = 15 ∧ t.foc.focAngle = 0)) = true := by decide

/-- `duty_pct` of section 3.13 at 253, and the calibration record of row CA1. -/
theorem test_telemetryStage :
    testNext (.telemetryStage 70) (testRiding.withSnap { testBase.snap with duty := 253 }) (fun t =>
      decide (t.pend.tlm.dutyPct = 99 ∧ t.pend.tlm.auxRaw = 70 ∧ t.pend.tlm.torqueX100 = 2010 ∧ t.pend.tlm.cadenceRpm = 60
        ∧ t.pend.tlm.vbatFilt = 552 ∧ t.pend.tlm.hasCal = false)) = true
    ∧ testNext (.telemetryStage 0) (testMode .motorCalibration 100) (fun t => decide (t.pend.tlm.hasCal = true)) = true := by decide

theorem test_publish :
    testNext .publish (testBase.withPend { testBase.pend with
        iTarget := 32, dutyTarget := 254, rampUpPeriod := 60, rampDownPeriod := 30, focAngle := 63, cadStopMinAdj := 1487, fwEnabled := true }) (fun t =>
      decide (t.drive.iTarget = 32 ∧ t.drive.dutyTarget = 254 ∧ t.drive.rampUpPeriod = 60 ∧ t.drive.rampDownPeriod = 30
        ∧ t.foc.focAngle = 63 ∧ t.cad.cadStopMinAdj = 1487 ∧ t.drive.fwEnabled = true)) = true := by decide

/-- Rows PG6 and PG11. -/
theorem test_pwmGate :
    testNext .pwmGate (testBase.withDrive { testBase.drive with
        iTarget := 32, duty := 77, fwAngle := 5, rampUpPeriod := 60, rampDownPeriod := 30, rampUpCnt := 7, rampDownCnt := 3 }) (fun t =>
      decide (t.out.pwmEnabled = true ∧ t.drive.duty = 30 ∧ t.drive.fwAngle = 0 ∧ t.drive.rampUpPeriod = 24
        ∧ t.drive.rampDownPeriod = 9 ∧ t.drive.rampUpCnt = 0 ∧ t.drive.rampDownCnt = 0)) = true
    ∧ testNext .pwmGate ((testBase.withOut { testBase.out with pwmEnabled := true }).withAdc { testBase.adc with brake := true })
      (fun t => decide (t.out.pwmEnabled = false)) = true := by decide

/-- Each pattern from the reset state of the rotor enters its sector (rules R104, R131); the two invalid ones change nothing. -/
theorem test_hall_rows :
    (∀ r ∈ ([(.hallS0 5, 0, 213), (.hallS1 5, 1, 0), (.hallS2 5, 2, 43), (.hallS3 5, 3, 85), (.hallS4 5, 4, 128), (.hallS5 5, 5, 171)]
        : List (Instr × Fin 6 × U8)),
      testNext r.1 testBase (fun t => decide (t.rotor.sector = r.2.1 ∧ t.rotor.sectorAngle = r.2.2 ∧ t.rotor.hallRefTick = 5)) = true)
    ∧ testNext (.hallInv0 5) testBase (fun t => decide (t = testBase)) = true
    ∧ testNext (.hallInv7 5) testBase (fun t => decide (t = testBase)) = true := by decide

/-- From a running cadence: a forward pair keeps it, a backward one (rules R106, R246) ends it, an unchanged one leaves the pins. -/
theorem test_pas_rows :
    (∀ r ∈ ([(.pas02Fwd, 0, 2), (.pas10Fwd, 1, 0), (.pas23Fwd, 2, 3), (.pas31Fwd, 3, 1), (.pas00Same, 0, 0), (.pas11Same, 1, 1),
        (.pas22Same, 2, 2), (.pas33Same, 3, 3)] : List (Instr × U2 × U2)),
      testNext r.1 (testRiding.withCad { testRiding.cad with pasOld := r.2.1, cadCounter := 952 }) (fun t =>
        decide (t.cad.pasOld = r.2.2 ∧ t.cad.cadTicks = 952)) = true)
    ∧ (∀ r ∈ ([(.pas01Bwd, 0, 1), (.pas03Bwd, 0, 3), (.pas12Bwd, 1, 2), (.pas13Bwd, 1, 3), (.pas20Bwd, 2, 0), (.pas21Bwd, 2, 1),
        (.pas30Bwd, 3, 0), (.pas32Bwd, 3, 2)] : List (Instr × U2 × U2)),
      testNext r.1 (testRiding.withCad { testRiding.cad with pasOld := r.2.1 }) (fun t =>
        decide (t.cad.pasOld = r.2.2 ∧ t.cad.cadTicks = 0 ∧ t.cad.cadRef = none)) = true)
    ∧ testRefused .pas02Fwd (testRiding.withCad { testRiding.cad with pasOld := 1 }) .codeNotHeld = true := by decide

/-- Rows PA1, EM1, WK2, CZ1, CA3 before the limiters and caps, OFF, and the reserved codes. -/
theorem test_mode_rows :
    (∀ r ∈ ([(.modeOff, .off, 0, 0, 0), (.modePowerAssist, .powerAssist, 0, 32, 254), (.modeEmtbAssist, .emtbAssist, 5, 0, 254),
        (.modeMotorCalibration, .motorCalibration, 255, 112, 253)] : List (Instr × Mode × U8 × Nat × Nat)),
      testNext r.1 (testMode .walkAssist r.2.2.1) (fun t => decide (t.ctl.mode = r.2.1 ∧ (t.work.tgt.dutyTgt = r.2.2.2.2 ∨ r.1 = .modeEmtbAssist)
        ∧ (t.work.tgt.i = r.2.2.2.1 ∨ r.1 = .modeEmtbAssist))) = true)
    ∧ testNext .modeEmtbAssist ((testMode .off 5).withTq { testRiding.tq with tqDelta := 120 }) (fun t =>
      decide (t.work.tgt = { i := 12, dutyTgt := 254, up := 52, down := 25 })) = true
    ∧ testNext .modeWalkAssist ((testMode .off 200).withWhl { testRiding.whl with wheelSpeedX10 := 0 }) (fun t =>
      decide (t.work.tgt = { i := 31, dutyTgt := 80, up := 194, down := 73 })) = true
    ∧ testNext .modeCruise ((testMode .off 20).withWhl { testRiding.whl with wheelSpeedX10 := 180 }) (fun t =>
      decide (t.asst.cruiseIntegral = 520 ∧ t.work.tgt.dutyTgt = 193)) = true
    ∧ testNext (.modeReserved 6) (testMode .cruise 20) (fun t => decide (t.ctl.mode = .off ∧ t.work.tgt.i = 0)) = true := by decide

/-- Rule R343 under each state, and the fault codes of rule R110. -/
theorem test_sys_rows :
    (∀ r ∈ ([(.sysMotorBlocked, .motorBlocked, 1), (.sysTorqueSensorFault, .torqueSensorFault, 2), (.sysCommLost, .commLost, 3)]
        : List (Instr × SysState × U2)),
      testNext r.1 ((testRiding.withTgt { i := 40, dutyTgt := 254, up := 52, down := 25 }).withCtl { testRiding.ctl with systemState := r.2.1 })
        (fun t => decide (t.work.tgt = { i := 0, dutyTgt := 0, up := 52, down := 9 } ∧ t.pend.tlm.faultCode = r.2.2)) = true)
    ∧ testNext .sysNoError (testRiding.withTgt { i := 40, dutyTgt := 254, up := 52, down := 25 }) (fun t =>
      decide (t.work.tgt.i = 40 ∧ t.pend.tlm.faultCode = 0)) = true
    ∧ testRefused .sysNoError (testRiding.withCtl { testRiding.ctl with systemState := .commLost }) .codeNotHeld = true := by decide

/-- Rows ER8 with IN8, and ER1 with IN1. -/
theorem test_cmode_rows :
    testNext .cmodeBlocked (testBase.withWork { Work.zero with raw := 500 }) (fun t => decide (t.rotor.erps = 0 ∧ t.work.interp = 0)) = true
    ∧ testNext .cmodeInterpolated (testTurned.withWork { Work.zero with raw := 500 }) (fun t =>
      decide (t.rotor.erps = 41 ∧ t.work.interp = 21)) = true
    ∧ testRefused .cmodeBlocked testTurned .codeNotHeld = true := by decide

/-- Rows TH8, TL4, and a function that is not the one in force. -/
theorem test_auxf_rows :
    testNext .auxfNone (testRiding.withAsst { testRiding.asst with auxValue := 9 }) (fun t => decide (t.asst.auxValue = 0)) = true
    ∧ testNext (.auxfThrottle 111) ((testRiding.withCfg { refCfg with auxFunction := .throttle }).withTgt
        { i := 32, dutyTgt := 254, up := 52, down := 25 }) (fun t =>
      decide (t.asst.auxValue = 126 ∧ t.work.tgt = { i := 49, dutyTgt := 254, up := 140, down := 73 })) = true
    ∧ testNext (.auxfTemperature 70) ((testRiding.withCfg { refCfg with auxFunction := .temperature }).withTgt
        { i := 40, dutyTgt := 254, up := 52, down := 25 }) (fun t => decide (t.asst.auxValue = 70 ∧ t.work.tgt.i = 20)) = true
    ∧ testRefused .auxfReserved testRiding .reservedAuxFunction = true
    ∧ testRefused (.auxfThrottle 0) testRiding .codeNotHeld = true := by decide

/-- Rows FC1 and FC10, and row CZ8 for the gains. -/
theorem test_mtype_rows :
    testNext .mtypeMotorA (testBase.withSnap { testBase.snap with duty := 200, ibatFilt := 10, erps := 600 }) (fun t =>
      decide (t.foc.focAcc = 16 ∧ t.pend.focAngle = 1)) = true
    ∧ testNext .mtypeMotorB ((((testMode .cruise 20).withWhl { testRiding.whl with wheelSpeedX10 := 180 }).withCfg
        { refCfg with motorType := .motorB }).withSnap { testBase.snap with duty := 200, ibatFilt := 10, erps := 600 }) (fun t =>
      decide (t.foc.focAcc = 9 ∧ t.work.tgt.dutyTgt = 203 ∧ t.asst.cruiseIntegral = 520)) = true
    ∧ testRefused .mtypeMotorB testBase .codeNotHeld = true := by decide

/-! ### Witnesses: for each statement with hypotheses, states and operands that meet them -/

/-- The reference parameter set is well-formed: the first hypothesis of most statements. -/
theorem test_ref_wf : refParams.wf = true := by decide

theorem test_hyp_DecodeEncode :
    ∀ i ∈ ([.reset, .cfgLoad refCfg, .cmdRx CmdRec.empty, .hallEdge 65535 7, .pwmRising 4095 4095 true true 3, .tickBegin 4095 4095,
      .evReserved 0, .evReserved 0x7FFFFFFF, .stallCheck 65535, .hallInv7 65535, .modeReserved 6, .modeReserved 255] : List Instr),
      i.encodable = true := by decide

theorem test_hyp_EncodeDecode :
    decode (.event 0x70000000 .nothing) = .ok .tickEnd ∧ decode (.row .mode 255 0) = .ok (.modeReserved 255)
      ∧ decode (.event 0xFFFFFFFF .nothing) = .ok (.evReserved 0x7FFFFFFF) := by decide

/-- One word at the edge of each clause of rule R117. -/
theorem test_hyp_IllegalEventsRefused :
    (8 ≤ (0x80000000 : U32).toNat / 2 ^ 28 ∧ 8 ≤ (0xFFFFFFFF : U32).toNat / 2 ^ 28)
    ∧ ((0x00000001 : U32).toNat / 2 ^ 28 = 0 ∧ (0x00000001 : U32).toNat % 2 ^ 28 ≠ 0)
    ∧ ((0x10000001 : U32).toNat / 2 ^ 28 = 1 ∧ (0x10000001 : U32).toNat % 2 ^ 28 ≠ 0)
    ∧ ((0x20000001 : U32).toNat / 2 ^ 28 = 2 ∧ (0x20000001 : U32).toNat % 2 ^ 28 ≠ 0)
    ∧ ((0x78000000 : U32).toNat / 2 ^ 28 = 7 ∧ (0x78000000 : U32).toNat % 2 ^ 28 ≠ 0)
    ∧ ((0x30080000 : U32).toNat / 2 ^ 28 = 3 ∧ (0x30080000 : U32).toNat % 2 ^ 28 / 2 ^ 19 ≠ 0)
    ∧ ((0x50010000 : U32).toNat / 2 ^ 28 = 5 ∧ (0x50010000 : U32).toNat % 2 ^ 28 / 2 ^ 16 ≠ 0)
    ∧ ((0x61000000 : U32).toNat / 2 ^ 28 = 6 ∧ (0x61000000 : U32).toNat % 2 ^ 28 / 2 ^ 24 ≠ 0)
    ∧ ((0x44000000 : U32).toNat / 2 ^ 28 = 4 ∧ refParams.adcVMaxSample < (0x44000000 : U32).toNat / 2 ^ 16 % 2 ^ 12)
    ∧ ((0x40001000 : U32).toNat / 2 ^ 28 = 4 ∧ refParams.adcIMaxSample < (0x40001000 : U32).toNat / 2 ^ 4 % 2 ^ 12)
    ∧ ((0x60100000 : U32).toNat / 2 ^ 28 = 6 ∧ refParams.adcAuxMaxSample < (0x60100000 : U32).toNat / 2 ^ 12 % 2 ^ 12)
    ∧ ((0x60000400 : U32).toNat / 2 ^ 28 = 6 ∧ refParams.adcTMaxSample < (0x60000400 : U32).toNat % 2 ^ 12) :=
  ⟨by decide, by decide, by decide, by decide, by decide, by decide, by decide, by decide, by decide, by decide, by decide, by decide⟩

theorem test_illegal_refused :
    testStepRefused (.event 0x80000000 .nothing) testBase .reservedEventCode = true
    ∧ testStepRefused (.event 0x78000000 .nothing) testBase .reservedBits = true
    ∧ testStepRefused (.event 0x30080000 .nothing) testBase .reservedBits = true
    ∧ testStepRefused (.event 0x44000000 .nothing) testBase .adcAboveMaximum = true
    ∧ testStepRefused (.event 0x60000400 .nothing) testBase .adcAboveMaximum = true := by decide

theorem test_hyp_StepRunsDecoded :
    testBase.par.wf = true ∧ (decode (.event 0x70000000 .nothing) = .ok .tickEnd ∧ decode (.row .pas4 16 0) = .error .unknownRow
      ∧ decode (.event 0x10000000 .nothing) = .error .missingRecord) := ⟨test_ref_wf, by decide⟩

theorem test_hyp_StepRunsDecoded_word :
    decodeTableWord 32 0x70000000 = some .tickEnd ∧ decodeTableWord 32 0x300603E8 = some (.hallEdge 1000 6)
      ∧ decodeTableWord 8 0x72 = some .pwmGate := by decide

theorem test_hyp_Refusals :
    { refParams with rampUpMin := 0 }.wf = false ∧ unloadedCfg.legal = false ∧ State.reset.asst.cfgValid = false := by decide

/-- The constraint on PWM_MID as rule R7 writes it, at its edge and one below, and the values of P_REF (log entry 6). -/
theorem test_params_pwmMid :
    { refParams with pwmMid := 146 }.wf = true ∧ { refParams with pwmMid := 145 }.wf = false ∧ { refParams with pwmMid := 63 }.wf = false
      ∧ refParams.pwmMidOfRef = true ∧ refParams.pwmMidBound = false := by decide

/-- Full duty and full offset, ready for an up step that must not pass them; and a snapshot of full duty. -/
theorem test_hyp_DriveInvKept :
    DriveInv (((testDrive 254 254 8 40 50 true false).withDrive
        { (testDrive 254 254 8 40 50 true false).drive with rampUpPeriod := 194, rampDownPeriod := 73, rampUpCnt := 254 }).withInbox
        [.row .sub 0x45 0])
    ∧ testSteps (((testDrive 254 254 8 40 50 true false).withDrive
        { (testDrive 254 254 8 40 50 true false).drive with rampUpPeriod := 194, rampDownPeriod := 73, rampUpCnt := 254 }).withInbox
        [.row .sub 0x45 0]) = true
    ∧ DriveInv (testBase.withSnap { testBase.snap with duty := 254 }) := by decide

theorem test_hyp_OutputInvKept :
    OutputInv ((testBase.withWork { Work.zero with newA := 214, newB := 0, newC := 107 }).withInbox [.row .sub 0x55 0])
    ∧ DriveInv ((testBase.withWork { Work.zero with newA := 214, newB := 0, newC := 107 }).withInbox [.row .sub 0x55 0])
    ∧ testSteps ((testBase.withWork { Work.zero with newA := 214, newB := 0, newC := 107 }).withInbox [.row .sub 0x55 0]) = true := by
  decide

theorem test_hyp_RotorInvKept :
    RotorInv (testTurned.withInbox [.event 0x30022328 .nothing]) ∧ testSteps (testTurned.withInbox [.event 0x30022328 .nothing]) = true
      := by decide

/-- A wheel counter at its maximum, a cadence in progress, an open zeroing window one sample from its close. -/
theorem test_hyp_SensorInvKept :
    SensorInv ((testRiding.withWhl { testRiding.whl with whlCounter := 39976, whlTicks := 165 }).withInbox [.row .sub 0x44 0])
    ∧ testSteps ((testRiding.withWhl { testRiding.whl with whlCounter := 39976, whlTicks := 165 }).withInbox [.row .sub 0x44 0]) = true
    ∧ SensorInv (testBase.withTq { testBase.tq with tqBootCnt := 199 }) := by decide

theorem test_hyp_FilterInvKept :
    FilterInv ((testBase.withAdc { ibatAcc := 1020, ibatFilt := 255, vbatRaw := 1023, brake := false, vbatAcc := 4092, vbatFilt := 1023 }).withInbox
        [.row .sub 0x41 0xFF0])
    ∧ testSteps ((testBase.withAdc { ibatAcc := 1020, ibatFilt := 255, vbatRaw := 1023, brake := false, vbatAcc := 4092, vbatFilt := 1023 }).withInbox
        [.row .sub 0x41 0xFF0]) = true
    ∧ FilterInv (testBase.withFoc { focAngle := 255, focAcc := 4080 }) := by decide

theorem test_hyp_SystemInvKept :
    SystemInv (((testBase.withAsst { testBase.asst with mbCnt := 8, mbCooldown := 120, cruiseIntegral := 1000 }).withCtl
        { testBase.ctl with systemState := .motorBlocked }).withInbox [.row .sub 0x67 0])
    ∧ testSteps (((testBase.withAsst { testBase.asst with mbCnt := 8, mbCooldown := 120, cruiseIntegral := 1000 }).withCtl
        { testBase.ctl with systemState := .motorBlocked }).withInbox [.row .sub 0x67 0]) = true := by decide

theorem test_hyp_AgentsWriteTheirOwn :
    (agentOf (.hallEdge 1000 6) = some .hall ∧ testNext (.hallEdge 1000 6) testBase (fun t => decide (t ≠ testBase)) = true)
    ∧ (agentOf (.pwmFalling 11167) = some .pwm ∧ testNext (.pwmFalling 11167) testTurned (fun t => decide (t ≠ testTurned)) = true)
    ∧ (agentOf (.tickBegin 0 150) = some .main ∧ testNext (.tickBegin 0 150) testBase (fun t => decide (t ≠ testBase)) = true)
    ∧ (agentOf (.cfgLoad refCfg) = some .env
      ∧ testNext (.cfgLoad refCfg) State.reset (fun t => decide (t ≠ State.reset)) = true) := by decide

/-- Each transition of the commutation mode that rule R24 allows happens, and a step that writes none of it. -/
theorem test_hyp_RegisterWriters :
    testNext (.hallEdge 13000 6) (testTurned.withRotor { testTurned.rotor with hallLast := 4, sector := 5, commMode := .blocked })
      (fun t => decide (t.rotor.commMode = .interpolated)) = true
    ∧ testNext (.pwmFalling 11167) testTurned (fun t => decide (t.rotor.commMode = .blocked)) = true
    ∧ (Instr.rampStep ≠ .reset ∧ agentOf .rampStep ≠ some .hall ∧ testNext .rampStep testTurned (fun _ => true) = true) := by decide

/-- Between the halves of a control tick and of a PWM cycle. -/
def testEnv (nextRising inTick : Bool) : Env :=
  { loaded := true, booted := true, nextRising := nextRising, inTick := inTick, lastTime := 70000, lastFalling := 70000 }

theorem test_hyp_PromisedEventsComplete :
    ((testEnv true false).agrees testBase ∧ (testEnv true true).agrees (testBase.withAsst { testBase.asst with tickOpen := true }))
    ∧ (testEnv true false).admits refParams (.pwmRising 1023 255 true true 3) 70000 = true
    ∧ (testEnv false false).admits refParams (.pwmFalling 298) 131370 = false
    ∧ (testEnv false false).admits refParams (.pwmFalling 297) 131369 = true
    ∧ (testEnv false false).admits refParams (.hallEdge 4464 6) 70000 = true
    ∧ (testEnv false false).admits refParams (.tickBegin 255 1023) 70000 = true
    ∧ (testEnv false true).admits refParams .tickEnd 70000 = true
    ∧ (testEnv false true).admits refParams (.cmdRx CmdRec.empty) 70000 = true
    ∧ (testEnv false true).admits refParams (.cfgLoad refCfg) 70000 = true
    ∧ (testEnv false true).admits refParams .reset 70000 = true := by decide

/-- A PWM_FALLING at the threshold, then one just past it, and one as late as the promise allows. -/
theorem test_hyp_NoStallIsMissed :
    (testTurned.asst.cfgValid = true ∧ testTurned.par.stallTicks < 65536 ∧ testTurned.rotor.hallRefTick = BitVec.ofNat 16 7000)
    ∧ (7000 ≤ 11166 ∧ 11166 - 7000 ≤ testTurned.par.stallTicks)
    ∧ (∀ b ∈ [11167, 72535], 11166 ≤ b ∧ b - 11166 < 65536 - testTurned.par.stallTicks ∧ testTurned.par.stallTicks < b - 7000
        ∧ testNext (.pwmFalling (BitVec.ofNat 16 b)) testTurned (fun t => decide (t.rotor.commMode = .blocked)) = true) := by decide

theorem test_hyp_ResetRegisters : testTurned.par.wf = true ∧ testTurned.par.pwmMid < 65536 := ⟨test_ref_wf, by decide⟩

theorem test_hyp_RecordIntake :
    (refCfg.legal = true ∧ testBase.asst.cfgValid = true ∧ unloadedCfg.legal = false ∧ State.reset.asst.cfgValid = false)
    ∧ ¬({ CmdRec.empty with hasAuxFunction := true, auxFunction := .temperature }.hasAuxFunction = true
        ∧ { CmdRec.empty with hasAuxFunction := true, auxFunction := .temperature }.auxFunction = .reserved)
    ∧ testRefused (.cmdRx { CmdRec.empty with hasAuxFunction := true, auxFunction := .reserved }) testBase .reservedAuxFunction = true
      := by decide

/-- Each ground of rejection, the boot edge into the revolution sector, and edges into another sector. -/
theorem test_hyp_HallEdge :
    testTurned.asst.cfgValid = true ∧ testBase.rotor.hallLast = 0 ∧ testTurned.rotor.hallLast = 6
      ∧ hallNext testTurned.rotor.hallLast = some 2 ∧ hallNext testTurned.rotor.hallLast ≠ some 3
      ∧ testNext (.hallEdge 8000 2) testTurned (fun t => decide (t.rotor.sector = 1)) = true
      ∧ testNext (.hallEdge 8000 6) testBase (fun t => decide (t.rotor.revRefValid = true ∧ t.rotor.commMode = .blocked)) = true := by
  decide

theorem test_hyp_HallRows :
    testTurned.asst.cfgValid = true ∧ hallNext 4 = some 6
      ∧ testNext (.hallS1 8000) testTurned (fun t => decide (t.rotor.sector = 1)) = true
      ∧ testNext (.hallS3 8000) testTurned (fun t => decide (t = testTurned)) = true := by decide

/-- Row ST2 at the threshold and row ST3 past it. -/
theorem test_hyp_StallCheck :
    testTurned.par.revTicksInvalid < 65536
      ∧ (65536 + (11166 : U16).toNat - testTurned.rotor.hallRefTick.toNat) % 65536 = testTurned.par.stallTicks
      ∧ testTurned.par.stallTicks < (65536 + (11167 : U16).toNat - testTurned.rotor.hallRefTick.toNat) % 65536 := by decide

/-- Full duty, with one index above the middle of the table and one below it. -/
theorem test_hyp_SvmSynth :
    (testDrive 254 254 8 40 50 true false).par.wf = true ∧
    (2 * (testDrive 254 254 8 40 50 true false).par.pwmMid < 65536
      ∧ (testDrive 254 254 8 40 50 true false).drive.duty.toNat ≤ (testDrive 254 254 8 40 50 true false).par.dutyMax
      ∧ testBase.par.svmMid < svmRead testBase.par.svmTable 1 ∧ svmRead testBase.par.svmTable 128 ≤ testBase.par.svmMid
      ∧ svmRead testBase.par.svmTable 0 = testBase.par.svmMid) := ⟨test_ref_wf, by decide⟩

theorem test_hyp_CurrentFilterAndPins :
    testBase.par.wf = true ∧
    ((255 : U12).toNat ≤ testBase.par.adcIMaxSample ∧ testBase.par.adcIMaxSample * 2 ^ testBase.par.iShift < 65536
      ∧ (testBase.withAdc { testBase.adc with ibatAcc := 1020, ibatFilt := 255 }).adc.ibatAcc.toNat
          ≤ testBase.par.adcIMaxSample * 2 ^ testBase.par.iShift
      ∧ (1023 : U12).toNat ≤ testBase.par.adcVMaxSample) := ⟨test_ref_wf, by decide⟩

/-- A forward pair into the reference, with none, and past another one with and without an interval; a backward pair; no change, at the
timeout and past it. -/
theorem test_hyp_CadStep :
    testBase.par.wf = true ∧
    (((2 : U2) ≠ 0 ∧ testBase.par.pasPrev 2 = 0) ∧ ((1 : U2) ≠ 0 ∧ testBase.par.pasPrev 1 ≠ 0)
      ∧ testNext (.cadStep 2) (testRiding.withCad { testRiding.cad with cadCounter := 65535 }) (fun t =>
          decide (t.cad.cadTicks = 65535 ∧ t.cad.cadCounter = 1)) = true
      ∧ testNext (.cadStep 2) testBase (fun t => decide (t.cad.cadRef = some 2 ∧ t.cad.cadStopMin = 4697)) = true
      ∧ testNext (.cadStep 2) (testRiding.withCad { testRiding.cad with cadRef := some 1 }) (fun t =>
          decide (t.cad.cadRef = some 1 ∧ t.cad.cadTicks = 952)) = true
      ∧ testNext (.cadStep 2) (testRiding.withCad { testRiding.cad with cadRef := some 1, cadTicks := 0 }) (fun t =>
          decide (t.cad.cadTicks = 7619)) = true
      ∧ testNext (.cadStep 1) testRiding (fun t => decide (t.cad.cadTicks = 0 ∧ t.cad.cadStopMin = 4270)) = true
      ∧ testNext (.cadStep 0) (testRiding.withCad { testRiding.cad with cadStopCnt := 4269 }) (fun t =>
          decide (t.cad.cadTicks = 952 ∧ t.cad.cadStopCnt = 4270)) = true
      ∧ testNext (.cadStep 0) (testRiding.withCad { testRiding.cad with cadStopCnt := 4270 }) (fun t =>
          decide (t.cad.cadTicks = 0 ∧ t.cad.cadStopCnt = 0)) = true) := ⟨test_ref_wf, by decide⟩

/-- The row held and the row not held. -/
theorem test_hyp_PasRows :
    testBase.cad.pasOld = 0 ∧ testBase.cad.pasOld ≠ 3 ∧ pasClass testBase.par 0 1 = .bwd
      ∧ testNext .pas01Bwd testBase (fun t => decide (t.cad.pasOld = 1)) = true := by decide

/-- The first edge, an accepted one at the shortest interval, one too early, the counter at its maximum, and a wheel at rest. -/
theorem test_hyp_WhlStep :
    testBase.par.wf = true ∧
    ((testBase.whl.whlPinOld = false ∧ testBase.whl.whlStarted = false ∧ testRiding.whl.whlStarted = true)
      ∧ testBase.par.whlTicksMin = (165 : U16).toNat ∧ testBase.par.whlTicksMax = (39976 : U16).toNat
      ∧ testNext (.whlStep true) testBase (fun t => decide (t.whl.whlStarted = true ∧ t.whl.whlCounter = 1)) = true
      ∧ testNext (.whlStep false) testBase (fun t => decide (t.whl = testBase.whl)) = true
      ∧ testNext (.whlStep false) (testRiding.withWhl { testRiding.whl with whlCounter := 39976 }) (fun t =>
          decide (t.whl.whlStarted = false ∧ t.whl.whlTicks = 0)) = true
      ∧ testNext (.whlStep true) (testRiding.withWhl { testRiding.whl with whlCounter := 39976 }) (fun t =>
          decide (t.whl.whlStarted = true ∧ t.whl.whlTicks = 39976)) = true) := ⟨test_ref_wf, by decide⟩

/-- Each of the six conditions alone at its edge, and the four branches. -/
theorem test_hyp_RampStep :
    testBase.par.wf = true ∧
    (∀ s ∈ ([testDrive 101 100 0 20 50 false false, testDrive 100 100 0 51 50 false false, testDrive 100 200 0 74 112 false false,
        (testDrive 100 100 0 20 50 false false).withRotor { testBase.rotor with erps := 651 },
        (testDrive 100 100 0 20 50 false false).withAdc { testBase.adc with ibatFilt := 20, vbatRaw := 299 },
        testDrive 100 100 0 20 50 false true] : List State), (trip s).bits ≠ 0)
    ∧ ((trip (testDrive 100 101 0 50 50 false false)).bits = 0 ∧ (trip (testDrive 254 254 8 49 50 true false)).bits = 0
      ∧ fwRampUp (testDrive 254 254 8 49 50 true false) = true ∧ fwRampUp (testDrive 254 254 8 50 50 true false) = false) :=
  ⟨test_ref_wf, by decide⟩

theorem test_hyp_PwmEvents :
    testBase.asst.cfgValid = true ∧ (1023 : U12).toNat ≤ testBase.par.adcVMaxSample
      ∧ (255 : U12).toNat ≤ testBase.par.adcIMaxSample := by decide

/-- A pending command with and without its optional fields, and none. -/
theorem test_hyp_CmdLatch :
    testBase.asst.cmdPending = false ∧ ((testBase.withAsst { testBase.asst with cmdPending := true }).asst.cmdPending = true)
      ∧ testNext .cmdLatch ((testBase.withCmdIn { CmdRec.empty with mode := 6, hasIMax := true, iMax := 50 }).withAsst
          { testBase.asst with cmdPending := true }) (fun t =>
        decide (t.ctl.mode = .off ∧ t.cmd.hasIMax = true ∧ t.cmd.iMax = 50 ∧ t.cmd.hasAccel = false)) = true := by decide

/-- Repeated VBAT_FILTER towards a constant sample. -/
def testVbatRun : Nat → State
  | 0 => testBase.withSnap { testBase.snap with vbatRaw := 552 }
  | k + 1 => vbatFilter (testVbatRun k)

theorem test_hyp_VbatFilter :
    testBase.par.wf = true ∧ ((testVbatRun 0).adc.vbatAcc.toNat ≤ 65535 * 2 ^ (testVbatRun 0).par.vShift
      ∧ (testVbatRun 0).adc.vbatFilt.toNat = (testVbatRun 0).adc.vbatAcc.toNat / 2 ^ (testVbatRun 0).par.vShift)
    ∧ (∀ k, exec .vbatFilter (testVbatRun k) = .next (testVbatRun (k + 1)))
    ∧ (testVbatRun 0).adc.vbatFilt.toNat < (testVbatRun 0).snap.vbatRaw.toNat := ⟨test_ref_wf, by decide, fun _ => rfl, by decide⟩

/-- Above the sample, and at it. -/
theorem test_hyp_VbatFilter_above :
    (testRiding.withSnap { testBase.snap with vbatRaw := 400 }).snap.vbatRaw.toNat < testRiding.adc.vbatFilt.toNat
      ∧ testRiding.adc.vbatFilt.toNat = (testRiding.withSnap { testBase.snap with vbatRaw := 552 }).snap.vbatRaw.toNat
      ∧ testRiding.adc.vbatFilt.toNat = testRiding.adc.vbatAcc.toNat / 2 ^ testRiding.par.vShift := by decide

theorem test_hyp_SpeedAndCadence : testRiding.par.wf = true := test_ref_wf

/-- The window open, one sample from its close, and closed. -/
theorem test_hyp_TqAcquire :
    testBase.par.wf = true ∧ ((1023 : U12).toNat ≤ testBase.par.adcTMaxSample
      ∧ testBase.tq.tqOffAcc.toNat ≤ testBase.par.adcTMaxSample * 2 ^ testBase.par.tqOffShift
      ∧ (16368 : U32).toNat = testBase.par.adcTMaxSample * 2 ^ testBase.par.tqOffShift
      ∧ testBase.tq.tqBootCnt.toNat + 1 < testBase.par.tqZeroTicks ∧ (199 : U16).toNat + 1 = testBase.par.tqZeroTicks
      ∧ testBase.par.tqZeroTicks ≤ testRiding.tq.tqBootCnt.toNat) := ⟨test_ref_wf, by decide⟩

/-- Row by row of the reference table. -/
theorem test_hyp_Linearize :
    refCfg.legal = true ∧ refCfg.tqLin[0].x.toNat = 20 ∧ linearize refCfg 20 = 50 ∧ linearize refCfg 21 = 53
      ∧ (refCfg.tqLin[4].x.toNat < 120 ∧ 120 ≤ refCfg.tqLin[5].x.toNat ∧ refCfg.tqLin[5].x.toNat < 121)
      ∧ linearize refCfg 120 = 560 ∧ linearize refCfg 121 = 560 := by decide

/-- The counters below, at and past the count that trips; in the cooldown blocked and free; the two other faults. -/
theorem test_hyp_FaultDetect :
    (testBase.par.mbTicks < 65536 ∧ testBase.par.mbCooldownTicks < 65536 ∧ 0 < testBase.par.mbTicks ∧ testBase.asst.mbCnt.toNat < 65535)
    ∧ (testBase.par.mbIMin < (31 : U16).toNat ∧ (19 : U16).toNat < testBase.par.mbErpsMax)
    ∧ testNext .faultDetect ((testBase.withAsst { testBase.asst with mbCnt := 6 }).withSnap { testBase.snap with ibatFilt := 31, erps := 19 })
        (fun t => decide (t.asst.mbCnt = 7 ∧ t.ctl.systemState = .noError)) = true
    ∧ testNext .faultDetect ((testBase.withAsst { testBase.asst with mbCooldown := 1 }).withSnap { testBase.snap with ibatFilt := 31, erps := 19 })
        (fun t => decide (t.asst.mbCooldown = 120 ∧ t.ctl.systemState = .motorBlocked)) = true
    ∧ testNext .faultDetect (testBase.withAsst { testBase.asst with mbCooldown := 1, commMissed := 11 })
        (fun t => decide (t.asst.mbCooldown = 0 ∧ t.ctl.systemState = .commLost)) = true
    ∧ testNext .faultDetect ((testMode .emtbAssist 5).withTq { testRiding.tq with tqOffset := 9 })
        (fun t => decide (t.ctl.systemState = .torqueSensorFault)) = true := by decide

theorem test_hyp_SysRows :
    testBase.ctl.systemState = .noError
      ∧ (testBase.withCtl { testBase.ctl with systemState := .commLost }).ctl.systemState = .commLost := by decide

/-- A run of control ticks that starts in the last tick of a cooldown: the k-th tick finds this. -/
def testPre : Nat → State
  | 0 => (testBase.withAsst { testBase.asst with mbCooldown := 1, cmdPending := true }).withCtl
      { testBase.ctl with systemState := .motorBlocked }
  | _ + 1 => testBase.withAsst { testBase.asst with cmdPending := true }

/-- And leaves this. -/
def testPost (k : Nat) : State := tickBegin 0 150 (testPre k)

theorem test_hyp_FaultsEnd :
    refParams.wf = true ∧ (∀ k, (testPre k).par = refParams) ∧ (∀ k, exec (.tickBegin 0 150) (testPre k) = .next (testPost k))
    ∧ (∀ k, (testPre (k + 1)).asst.mbCnt = (testPost k).asst.mbCnt ∧ (testPre (k + 1)).asst.mbCooldown = (testPost k).asst.mbCooldown)
    ∧ (testPre 0).asst.mbCooldown.toNat ≤ refParams.mbCooldownTicks ∧ (∀ k, (testPre k).asst.cmdPending = true)
    ∧ (∀ k, ¬(refParams.mbIMin < (testPre k).adc.ibatFilt.toNat ∧ (testPre k).rotor.erps.toNat < refParams.mbErpsMax))
    ∧ (∀ k, (testPost k).ctl.mode ≠ .powerAssist ∧ (testPost k).ctl.mode ≠ .emtbAssist) := by
  have two : ∀ k, testPre (k + 1) = testPre 1 ∧ testPost (k + 1) = testPost 1 := fun _ => ⟨rfl, rfl⟩
  refine ⟨test_ref_wf, fun k => ?_, fun k => ?_, fun k => ?_, by decide, fun k => ?_, fun k => ?_, fun k => ?_⟩ <;>
    rcases k with _ | k <;> first | rfl | decide | (simp only [two]; decide)

theorem test_hyp_LinMap :
    (0 : Nat) < 1 ∧ (linMap 10 10 20 5 105 = 5 ∧ linMap 11 10 20 5 105 = 15 ∧ linMap 19 10 20 105 5 = 15 ∧ linMap 20 10 20 105 5 = 5) := by
  decide

/-- The walk limit just below, at it, and both sides of the bonus. -/
theorem test_hyp_PolicyPlainModes :
    (testMode .off 0).ctl.mode = .off ∧ (testMode .walkAssist 80).ctl.mode = .walkAssist
      ∧ (testMode .motorCalibration 255).ctl.mode = .motorCalibration
      ∧ (59 : U16).toNat < testBase.par.walkSpeedMaxX10 ∧ testBase.par.walkSpeedMaxX10 ≤ (60 : U16).toNat
      ∧ testNext .modePolicy ((((testMode .walkAssist 81).withWhl { testRiding.whl with wheelSpeedX10 := 59 }).withCfg
          { refCfg with fwEnabled := true }).withCmd { CmdRec.empty with flags := 1 } |>.withSnap { testBase.snap with fwAngle := 3 })
        (fun t => decide (t.work.tgt.i = 34 ∧ t.work.tgt.dutyTgt = 80)) = true := by decide

theorem test_hyp_PolicyAssistModes :
    (testMode .powerAssist 0).ctl.mode = .powerAssist ∧ (testMode .emtbAssist 255).ctl.mode = .emtbAssist
      ∧ testNext .modePolicy (((testMode .powerAssist 0).withCfg { refCfg with hybrid := true, softStart := true, awprThreshold := 29 }).withWhl
          { testRiding.whl with wheelSpeedX10 := 0 } |>.withCad { testRiding.cad with cadenceRpm := 0 })
        (fun t => decide (t.work.tgt.i = 20 ∧ t.work.tgt.dutyTgt = 254)) = true := by decide

/-- At the engagement speed and just above it, held and engaging. -/
theorem test_hyp_PolicyCruise :
    testBase.par.wf = true ∧ (testBase.par.cruiseILimit < 2 ^ 31 ∧ (testMode .cruise 0).ctl.mode = .cruise
      ∧ (90 : U16).toNat ≤ testBase.par.cruiseSpeedMinX10 ∧ testBase.par.cruiseSpeedMinX10 < (91 : U16).toNat
      ∧ testNext .modePolicy ((testMode .cruise 0).withWhl { testRiding.whl with wheelSpeedX10 := 91 }) (fun t =>
          decide (t.asst.cruiseTargetX10 = 91 ∧ t.asst.cruiseIntegral = 500)) = true
      ∧ testNext .modePolicy ((testMode .cruise 0).withWhl { testRiding.whl with wheelSpeedX10 := 90 }) (fun t =>
          decide (t.asst.cruiseActive = false ∧ t.work.tgt.dutyTgt = 0)) = true) := ⟨test_ref_wf, by decide⟩

theorem test_hyp_ModeRows : 6 ≤ (6 : U8).toNat ∧ 6 ≤ (255 : U8).toNat := by decide

/-- `testRiding` with an optional-ADC function in its configuration. -/
def testAux (f : AuxFunction) : State := testRiding.withCfg { refCfg with auxFunction := f }

/-- The three functions, from the configuration and over it from the command; the current ceiling; both sides of the speed limit's 50. -/
theorem test_hyp_PostProcess :
    testRiding.par.wf = true ∧ ((255 : U12).toNat ≤ testRiding.par.adcAuxMaxSample
      ∧ (∀ f ∈ ([.noFunction, .throttle, .temperature] : List AuxFunction),
        f = (if (testAux f).cmd.hasAuxFunction = true then (testAux f).cmd.auxFunction else (testAux f).cfg.auxFunction) ∧ f ≠ .reserved)
      ∧ ((testAux .throttle).withCmd { CmdRec.empty with hasAuxFunction := true, auxFunction := .temperature }).cmd.hasAuxFunction = true
      ∧ 100 = min (min (testAux .throttle).par.iAdcMax (testAux .throttle).cfg.iMax.toNat)
          ((testAux .throttle).cfg.powerMaxW.toNat * 1000000
            / ((testAux .throttle).adc.vbatFilt.toNat * (testAux .throttle).par.mvPerVstep * (testAux .throttle).par.maPerIstep))
      ∧ (testRiding.withCfg { refCfg with speedMax := 50 }).cfg.speedMax.toNat ≤ 50
      ∧ 50 < (testRiding.withCfg { refCfg with speedMax := 51 }).cfg.speedMax.toNat
      ∧ testNext (.postProcess 255) (((testRiding.withCfg { refCfg with auxFunction := .throttle, speedMax := 51 }).withTgt
          { i := 40, dutyTgt := 10, up := 52, down := 25 }).withWhl { testRiding.whl with wheelSpeedX10 := 530 })
        (fun t => decide (t.work.tgt.i = 0 ∧ t.asst.auxValue = 255)) = true) := ⟨test_ref_wf, by decide⟩

/-- Each function; the throttle at the target and above it; the temperature limits in order and not; a row of another function. -/
theorem test_hyp_AuxRows :
    testRiding.par.wf = true ∧ ((255 : U12).toNat ≤ testRiding.par.adcAuxMaxSample
      ∧ (∀ f ∈ ([.noFunction, .throttle, .temperature] : List AuxFunction),
        f = (if (testAux f).cmd.hasAuxFunction = true then (testAux f).cmd.auxFunction else (testAux f).cfg.auxFunction))
      ∧ testNext (.auxfThrottle 111) ((testAux .throttle).withTgt { i := 49, dutyTgt := 7, up := 52, down := 25 }) (fun t =>
          decide (t.work.tgt.dutyTgt = 7)) = true
      ∧ testNext (.auxfThrottle 111) ((testAux .throttle).withTgt { i := 48, dutyTgt := 7, up := 52, down := 25 }) (fun t =>
          decide (t.work.tgt = { i := 49, dutyTgt := 254, up := 140, down := 73 })) = true
      ∧ (testAux .temperature).cfg.tempMin.toNat < (testAux .temperature).cfg.tempMax.toNat
      ∧ { refCfg with auxFunction := .temperature, tempMin := 90 }.tempMax.toNat
          ≤ { refCfg with auxFunction := .temperature, tempMin := 90 }.tempMin.toNat
      ∧ testRefused (.auxfThrottle 255) (testAux .temperature) .codeNotHeld = true
      ∧ testRefused (.auxfTemperature 255) (testAux .noFunction) .codeNotHeld = true) := ⟨test_ref_wf, by decide⟩

theorem test_hyp_GlobalCaps :
    testRiding.par.wf = true ∧ (testRiding.ctl.systemState = .noError
      ∧ (testRiding.withCtl { testRiding.ctl with systemState := .commLost }).ctl.systemState ≠ .noError) := ⟨test_ref_wf, by decide⟩

/-- Full torque, no torque, a fault, and misconfigured temperature limits. -/
theorem test_hyp_TickTargets :
    testRiding.par.wf = true ∧
    (testNext (.tickBegin 0 1023) ((testMode .motorCalibration 255).withCmd { CmdRec.empty with hasIMax := true, iMax := 50 }) (fun t =>
        decide (t.pend.iTarget = 50 ∧ t.pend.dutyTarget = 253)) = true
    ∧ testNext (.tickBegin 0 150) (testMode .powerAssist 0) (fun t =>
        decide (t.tq.tqDelta = 0 ∧ t.ctl.mode = .powerAssist ∧ t.snap.fwAngle.toNat ≤ testRiding.par.fwBonusMinAngle
          ∧ effAuxFunction t ≠ .throttle)) = true
    ∧ testNext (.tickBegin 0 1023) ((testMode .motorCalibration 255).withAsst { testRiding.asst with commMissed := 255 }) (fun t =>
        decide (t.ctl.systemState ≠ .noError)) = true
    ∧ testNext (.tickBegin 0 1023) ((testMode .motorCalibration 255).withCfg { refCfg with auxFunction := .temperature, tempMin := 90 })
        (fun t => decide (effAuxFunction t = .temperature)) = true) := ⟨test_ref_wf, by decide⟩

theorem test_hyp_TickTargets_emtb :
    (∀ c, emtbRead refParams.emtbTable c 0 = 0)
    ∧ testNext (.tickBegin 0 150) (testMode .emtbAssist 10) (fun t =>
        decide (t.tq.tqDelta = 0 ∧ t.ctl.mode = .emtbAssist ∧ effFwEnabled t = false ∧ effAuxFunction t ≠ .throttle)) = true := by
  refine ⟨fun c => ?_, by decide⟩
  simp [emtbRead, refParams, emtbTest]

/-- No torque with the throttle selected: released it does not override and the staged current is 0, pressed it overrides. -/
theorem test_hyp_TickTargets_throttle :
    testNext (.tickBegin 0 150) ((testMode .powerAssist 0).withCfg { refCfg with auxFunction := .throttle }) (fun t =>
        decide (t.tq.tqDelta = 0 ∧ t.ctl.mode = .powerAssist ∧ t.cfg.auxFunction = .throttle ∧ t.cmd.hasAuxFunction = false
          ∧ linMap 0 refParams.thrAdcMin refParams.thrAdcMax 0 (iCap t) = 0 ∧ t.pend.iTarget = 0)) = true
    ∧ testNext (.tickBegin 255 150) ((testMode .powerAssist 0).withCfg { refCfg with auxFunction := .throttle }) (fun t =>
        decide (0 < linMap 255 refParams.thrAdcMin refParams.thrAdcMax 0 (iCap t))) = true := by decide

/-- Each of the three rows, in a state whose function is the row's, with a sample the channel can give. -/
theorem test_hyp_TickTargets_rows :
    testRiding.par.wf = true ∧ ((255 : U12).toNat ≤ testRiding.par.adcAuxMaxSample
      ∧ ∀ r ∈ ([(.auxfNone, .noFunction), (.auxfThrottle 255, .throttle), (.auxfTemperature 255, .temperature)] :
          List (Instr × AuxFunction)), testNext r.1 (testAux r.2) (fun _ => true) = true) := ⟨test_ref_wf, by decide⟩

theorem test_hyp_TickTargets_limits :
    testNext (.auxfThrottle 255) (testRiding.withCfg { refCfg with auxFunction := .throttle }) (fun _ => true) = true
    ∧ testNext (.postProcess 0) testRiding (fun _ => true) = true ∧ effAuxFunction testRiding ≠ .throttle := by decide

/-- Each side of the gate, and an accumulator at its bound. -/
theorem test_hyp_FocUpdate :
    testBase.par.wf = true ∧ ((4080 : U16).toNat ≤ 255 * 2 ^ testBase.par.focShift
      ∧ testBase.par.focGateSense = .engage ∧ testBase.par.focArg = .reference
      ∧ (9 : U8).toNat < testBase.par.focDutyLow ∧ ¬(10 : U8).toNat < testBase.par.focDutyLow
      ∧ testBase.par.focErpsBandHi < (501 : U16).toNat ∧ ¬testBase.par.focErpsBandHi < (500 : U16).toNat) := ⟨test_ref_wf, by decide⟩

theorem test_hyp_CmodeMtypeRows :
    testBase.rotor.commMode = .blocked ∧ testTurned.rotor.commMode = .interpolated ∧ testBase.cfg.motorType = .motorA
      ∧ (testMode .cruise 20).ctl.mode = .cruise ∧ (testMode .off 20).ctl.mode ≠ .cruise := by decide

theorem test_hyp_TelemetryStage :
    testRiding.par.wf = true ∧ ((255 : U12).toNat ≤ testRiding.par.adcAuxMaxSample
      ∧ (testRiding.withSnap { testBase.snap with duty := 254 }).snap.duty.toNat ≤ testRiding.par.dutyMax) := ⟨test_ref_wf, by decide⟩

theorem test_hyp_TickBegin :
    testBase.asst.cfgValid = true ∧ (255 : U12).toNat ≤ testBase.par.adcAuxMaxSample ∧ (1023 : U12).toNat ≤ testBase.par.adcTMaxSample
      ∧ testBase.asst.tickOpen = false
      ∧ (testBase.withAsst { testBase.asst with tickOpen := true }).asst.tickOpen = true := by decide

/-- The three cases of the gate, each at its edge. -/
theorem test_hyp_PwmGate :
    testBase.par.wf = true ∧
    ((testBase.out.pwmEnabled = false ∧ (29 : U16).toNat < testBase.par.erpsEnableMax ∧ testBase.adc.brake = false)
      ∧ testNext .pwmGate ((testBase.withDrive { testBase.drive with iTarget := 1 }).withRotor { testBase.rotor with erps := 29 })
          (fun t => decide (t.out.pwmEnabled = true ∧ t.drive.duty = 30)) = true
      ∧ testNext .pwmGate ((testBase.withDrive { testBase.drive with iTarget := 1 }).withRotor { testBase.rotor with erps := 30 })
          (fun t => decide (t.out.pwmEnabled = false)) = true
      ∧ testNext .pwmGate (testBase.withOut { testBase.out with pwmEnabled := true }) (fun t => decide (t.out.pwmEnabled = false)) = true
      ∧ testNext .pwmGate ((testBase.withOut { testBase.out with pwmEnabled := true }).withDrive { testBase.drive with duty := 1 })
          (fun t => decide (t.out.pwmEnabled = true)) = true) := ⟨test_ref_wf, by decide⟩

theorem test_hyp_TickEnd :
    testBase.asst.cfgValid = true ∧ testBase.asst.tickOpen = false
      ∧ (testBase.withAsst { testBase.asst with tickOpen := true }).asst.tickOpen = true := by decide

/-- Runs of PWM_GATE that change the output once: off with a zero target, on with a nonzero one. -/
def testGateRun (on : Bool) : Nat → State
  | 0 => (testBase.withOut { testBase.out with pwmEnabled := !on }).withDrive { testBase.drive with iTarget := if on then 1 else 0 }
  | _ + 1 => pwmGate
      ((testBase.withOut { testBase.out with pwmEnabled := !on }).withDrive { testBase.drive with iTarget := if on then 1 else 0 })

theorem test_hyp_NoChatter :
    ∀ on : Bool, (∀ k, exec .pwmGate (testGateRun on k) = .next (testGateRun on (k + 1)))
      ∧ (if on then ∀ k, 0 < (testGateRun on k).drive.iTarget.toNat else ∀ k, (testGateRun on k).drive.iTarget.toNat = 0)
      ∧ (testGateRun on 1).out.pwmEnabled ≠ (testGateRun on 0).out.pwmEnabled := by
  have two : ∀ on k, testGateRun on (k + 1) = testGateRun on 1 := fun _ _ => rfl
  rintro (_ | _) <;> refine ⟨fun k => ?_, fun k => ?_, by decide⟩ <;> rcases k with _ | k <;> first | rfl | decide | (simp only [two]; decide)

/-- A run of PWM_RISING with the brake on, from full duty and full offset. -/
def testBrakeRun : Nat → State
  | 0 => testDrive 254 254 8 40 50 true false
  | k + 1 => pwmRising 552 40 true false 0 (testBrakeRun k)

theorem test_hyp_BrakeRampsToZero :
    refParams.wf = true ∧ refParams.forceFastMask.getLsbD 5 = true ∧ (∀ k, (testBrakeRun k).par = refParams)
    ∧ (∀ k, exec (.pwmRising 552 40 true false 0) (testBrakeRun k) = .next (testBrakeRun (k + 1)))
    ∧ (testBrakeRun 0).drive.rampDownCnt = 0 ∧ (testBrakeRun 0).drive.duty = 254 ∧ (testBrakeRun 0).drive.fwAngle = 8 := by
  have keep : ∀ k, (testBrakeRun k).par = refParams ∧ (testBrakeRun k).asst.cfgValid = true := by
    intro k
    induction k with
    | zero => exact ⟨rfl, rfl⟩
    | succ k ih => exact ih
  refine ⟨test_ref_wf, by decide, fun k => (keep k).1, fun k => ?_, by decide, by decide, by decide⟩
  simp [exec, execPwmRising, guarded, adcOk, keep k, refParams, testBrakeRun]

/-- The pins of a pedal that rests for one step and then turns forward, one transition a step. -/
def testPedalPins (k : Nat) : U2 := if k = 0 then 0 else match k % 4 with | 1 => 2 | 2 => 3 | 3 => 1 | _ => 0

/-- Cadence steps on those pins, from no reference. -/
def testPedal : Nat → State
  | 0 => testBase
  | k + 1 => cadStep (testPedalPins k) (testPedal k)

/-- The forward transitions of the first steps. -/
def testPedalCount : Nat → Nat
  | 0 => 0
  | k + 1 => testPedalCount k + (if testPedalPins k = (testPedal k).cad.pasOld then 0 else 1)

/-- Each clause at its edges: no transition yet, the first, the second, the fourth, the fifth and the eighth. -/
theorem test_hyp_CadenceStarts :
    (testPedal 0).par.wf = true ∧ (∀ k, exec (.cadStep (testPedalPins k)) (testPedal k) = .next (testPedal (k + 1)))
    ∧ (∀ k, testPedalCount (k + 1) = testPedalCount k + (if testPedalPins k = (testPedal k).cad.pasOld then 0 else 1))
    ∧ ((testPedal 0).cad.cadRef = none ∧ (testPedal 0).cad.cadTicks = 0 ∧ testPedalCount 0 = 0)
    ∧ (∀ k < 9, testPedalPins k = (testPedal k).cad.pasOld ∨ refParams.pasPrev (testPedalPins k) = (testPedal k).cad.pasOld)
    ∧ (∀ k < 9, (testPedal (k + 1)).cad.cadStopCnt ≠ 0)
    ∧ (testPedalCount 1 = 0 ∧ testPedalCount 2 = 1 ∧ testPedalCount 3 = 2 ∧ testPedalCount 5 = 4 ∧ testPedalCount 6 = 5
      ∧ testPedalCount 9 = 8)
    ∧ ((testPedal 2).cad.cadTicks = 0 ∧ (testPedal 3).cad.cadTicks = 7619 ∧ (testPedal 5).cad.cadTicks = 7619
      ∧ (testPedal 6).cad.cadTicks = 4) :=
  ⟨test_ref_wf, fun _ => rfl, fun _ => rfl, by decide, by decide, by decide, by decide, by decide⟩

/-- Rule R133 (c) on patterns running backward from 0x6: four are rejected, the fifth is the successor of 0x6 (log entry 15). -/
theorem test_hall_backward : [4, 5, 1, 3, 2].map (hallAccept 6) = [false, false, false, false, true] := by decide

/-- Cadence steps with the pins at rest. -/
def testRest : Nat → State
  | 0 => testRiding.withCad { testRiding.cad with cadStopMin := 3 }
  | k + 1 => cadStep 0 (testRest k)

theorem test_hyp_CadenceStops :
    (testRest 0).cad.pasOld = 0 ∧ (testRest 0).cad.cadStopMin.toNat < 65535 ∧ (∀ k, exec (.cadStep 0) (testRest k) = .next (testRest (k + 1)))
    ∧ (testRest 3).cad.cadTicks = 952 ∧ (testRest 4).cad.cadTicks = 0 := ⟨by decide, by decide, fun _ => rfl, by decide, by decide⟩
end

section
/-! PROOFS. The linear map primitive of rule R12, its branches and its bounds. -/

namespace Sys2Proof.Laws

open Sys2Proof.Machine

/-- At or below the input range the map is the first end of the output range. -/
theorem linMap_of_le {x inLo : Nat} (inHi outLo outHi : Nat) (h : x ≤ inLo) : linMap x inLo inHi outLo outHi = outLo :=
  if_pos h

/-- Above `inLo` and at or above the input range the map is the second end of the output range. -/
theorem linMap_of_ge {x inLo inHi : Nat} (outLo outHi : Nat) (hl : inLo < x) (h : inHi ≤ x) :
    linMap x inLo inHi outLo outHi = outHi := by
  rw [linMap, if_neg (by omega), if_pos h]

/-- Inside the input range, with the output range rising. -/
theorem linMap_of_between_rising {x inLo inHi outLo outHi : Nat} (hl : inLo < x) (hh : x < inHi) (ho : outLo ≤ outHi) :
    linMap x inLo inHi outLo outHi = outLo + (x - inLo) * (outHi - outLo) / (inHi - inLo) := by
  rw [linMap, if_neg (by omega), if_neg (by omega), if_pos ho]

/-- Inside the input range, with the output range falling. -/
theorem linMap_of_between_falling {x inLo inHi outLo outHi : Nat} (hl : inLo < x) (hh : x < inHi) (ho : outHi < outLo) :
    linMap x inLo inHi outLo outHi = outLo - (x - inLo) * (outLo - outHi) / (inHi - inLo) := by
  rw [linMap, if_neg (by omega), if_neg (by omega), if_neg (by omega)]

/-- 'The result always lies between `out_lo` and `out_hi`' (rule R12); for an empty input range as well. -/
theorem linMap_bounds (x inLo inHi outLo outHi : Nat) :
    min outLo outHi ≤ linMap x inLo inHi outLo outHi ∧ linMap x inLo inHi outLo outHi ≤ max outLo outHi := by
  rcases Nat.lt_or_ge inLo x with hl | hl
  · rcases Nat.lt_or_ge x inHi with hh | hh
    · -- `x - inLo` is at most `inHi - inLo`, so the map moves at most the whole distance between the two ends
      have frac : ∀ k, (x - inLo) * k / (inHi - inLo) ≤ k := fun k =>
        Nat.div_le_of_le_mul (Nat.mul_le_mul_right k (by omega))
      rcases Nat.lt_or_ge outHi outLo with ho | ho
      · rw [linMap_of_between_falling hl hh ho]
        have := frac (outLo - outHi)
        generalize (x - inLo) * (outLo - outHi) / (inHi - inLo) = part at *
        omega
      · rw [linMap_of_between_rising hl hh ho]
        have := frac (outHi - outLo)
        generalize (x - inLo) * (outHi - outLo) / (inHi - inLo) = part at *
        omega
    · rw [linMap_of_ge outLo outHi hl hh]
      omega
  · rw [linMap_of_le inHi outLo outHi hl]
    omega

end Sys2Proof.Laws

namespace Sys2Proof.Settled

open Sys2Proof.Laws

/-- Settles O41: the branches of the map, and its bounds. -/
theorem linMap : Obligations.LinMap := fun x inLo inHi outLo outHi hr =>
  ⟨linMap_of_le inHi outLo outHi, fun h => linMap_of_ge outLo outHi (hr.trans_le h) h, linMap_of_between_rising,
    linMap_of_between_falling, linMap_bounds x inLo inHi outLo outHi⟩

end Sys2Proof.Settled
end

section
/-! PROOFS. The step, one equation per way a delivery can go (rules R5, R8, R80, R81), and the refusals before a configuration is
loaded (rules R353, R425). -/

namespace Sys2Proof.Laws

open Sys2Proof.Machine

/-! ### The step -/

/-- An item that decodes is run as what it decodes to. -/
theorem runItem_of_decode_ok {run : Instr → State → Host.Outcome State Fault Refusal} {x : Input} {i : Instr} (s : State)
    (h : decode x = .ok i) : runItem run x s = run i s := by
  simp only [runItem, h]

/-- An item that does not decode is refused by the decoder's reason. -/
theorem runItem_of_decode_error {run : Instr → State → Host.Outcome State Fault Refusal} {x : Input} {r : Reject} (s : State)
    (h : decode x = .error r) : runItem run x s = .refused (refusalOf r) := by
  simp only [runItem, h]

/-- A parameter set that breaks a constraint is refused (rule R8). -/
theorem step_of_illFormed {s : State} (hw : s.par.wf = false) : step s = .refused .illFormedParameters := by
  simp [step, deliver, hw]

/-- With nothing to deliver nothing changes (rule R80, log entry 3). -/
theorem step_of_inbox_nil {s : State} (hw : s.par.wf = true) (hs : s.inbox = []) : step s = .next s := by
  simp [step, deliver, hw, hs]

/-- The next item is taken and run. -/
theorem step_of_inbox_cons {s : State} {x : Input} {rest : List Input} (hw : s.par.wf = true) (hs : s.inbox = x :: rest) :
    step s = runItem exec x (s.withInbox rest) := by
  simp [step, deliver, hw, hs]

/-- A table word stands for what the item with its bits decodes to. -/
theorem decodeTableWord_eq_some_iff (nbits w : Nat) (i : Instr) :
    decodeTableWord nbits w = some i ↔ decode (inputOfWord nbits w) = .ok i := by
  unfold decodeTableWord
  cases decode (inputOfWord nbits w) <;> simp

/-- A word placed by the host's interface is taken first, and what was yet to be delivered stays (log entry 3). -/
theorem step_withFetchWord {s : State} {nbits w : Nat} {i : Instr} (hw : s.par.wf = true)
    (hd : decodeTableWord nbits w = some i) : step (s.withFetchWord nbits w) = exec i s := by
  have hitem : decode (inputOfWord nbits w) = .ok i := (decodeTableWord_eq_some_iff nbits w i).mp hd
  calc step (s.withFetchWord nbits w)
      = runItem exec (inputOfWord nbits w) ((s.withFetchWord nbits w).withInbox s.inbox) := step_of_inbox_cons hw rfl
    _ = runItem exec (inputOfWord nbits w) s := rfl
    _ = exec i s := runItem_of_decode_ok s hitem

/-! ### Refusals of events -/

/-- A guarded step whose condition fails is refused. -/
theorem guarded_of_false {ok : Bool} (r : Refusal) (s : State) (h : ok = false) : guarded ok r s = .refused r := by
  simp [guarded, h]

/-- CFG_LOAD refuses a record outside the legal ranges (rules R8, R353). -/
theorem exec_cfgLoad_of_illegal (s : State) {r : CfgRec} (h : r.legal = false) :
    exec (.cfgLoad r) s = .refused .illegalConfiguration :=
  guarded_of_false _ _ h

/-! Rule R425: until a configuration is loaded every event but RESET and CFG_LOAD is refused. -/

section Unconfigured

variable {s : State} (h : s.asst.cfgValid = false)
include h

theorem exec_cmdRx_of_unconfigured (r : CmdRec) : exec (.cmdRx r) s = .refused .notConfigured := by
  simp [exec, execCmdRx, h]

theorem exec_hallEdge_of_unconfigured (tick : U16) (hall : U3) : exec (.hallEdge tick hall) s = .refused .notConfigured :=
  guarded_of_false _ _ h

theorem exec_pwmRising_of_unconfigured (adcVbat adcIbat : U12) (brake whl : Bool) (pas : U2) :
    exec (.pwmRising adcVbat adcIbat brake whl pas) s = .refused .notConfigured := by
  simp [exec, execPwmRising, h]

theorem exec_pwmFalling_of_unconfigured (tick : U16) : exec (.pwmFalling tick) s = .refused .notConfigured :=
  guarded_of_false _ _ h

theorem exec_tickBegin_of_unconfigured (adcAux adcTorque : U12) :
    exec (.tickBegin adcAux adcTorque) s = .refused .notConfigured := by
  simp [exec, execTickBegin, h]

theorem exec_tickEnd_of_unconfigured : exec .tickEnd s = .refused .notConfigured := by
  simp [exec, execTickEnd, h]

end Unconfigured

end Sys2Proof.Laws

namespace Sys2Proof.Settled

open Sys2Proof.Laws

/-- Settles O6: one clause per way a delivery can go, and the word placed by the host's interface. -/
theorem stepRunsDecoded : Obligations.StepRunsDecoded := by
  refine ⟨fun s x rest i hw hs hd => ?_, fun s => step_of_inbox_nil, fun s x rest r hw hs hd => ?_,
    fun s nbits w i => step_withFetchWord⟩
  · exact (step_of_inbox_cons hw hs).trans (runItem_of_decode_ok _ hd)
  · exact (step_of_inbox_cons hw hs).trans (runItem_of_decode_error _ hd)

/-- Settles O7: the refusals of rules R8 and R353, and those of rule R425 event by event. -/
theorem refusals : Obligations.Refusals :=
  ⟨⟨fun _ => step_of_illFormed, fun s _ => exec_cfgLoad_of_illegal s⟩, fun _ h =>
    ⟨exec_cmdRx_of_unconfigured h, exec_hallEdge_of_unconfigured h, exec_pwmRising_of_unconfigured h,
      exec_pwmFalling_of_unconfigured h, exec_tickBegin_of_unconfigured h, exec_tickEnd_of_unconfigured h⟩⟩

end Sys2Proof.Settled
end

section
/-! PROOFS. Every invariant holds right after reset, for every well-formed parameter set, configuration record, inbox and count of
free values: what the state after reset and the state after a RESET event (rule R420) have in common. -/

namespace Sys2Proof.Laws

open Sys2Proof.Machine

/-- Each constraint of a well-formed parameter set holds (rule R8). -/
theorem check_of_wf {p : Params} (h : p.wf = true) {c : String × Bool} (hc : c ∈ p.checks) : c.2 = true :=
  List.all_eq_true.mp h c hc

/-- The default ramp-up period is no faster than the fastest one and fits its register (rule R7). -/
theorem rampUpDefault_of_wf {p : Params} (h : p.wf = true) : p.rampUpMin ≤ p.rampUpDefault ∧ p.rampUpDefault < 256 := by
  simpa using check_of_wf h
    (c := ("RAMP_UP_DEFAULT", decide (p.rampUpMin ≤ p.rampUpDefault ∧ p.rampUpDefault < 256))) (by simp [Params.checks])

/-- The default ramp-down period is no faster than the fastest one and fits its register (rule R7). -/
theorem rampDownDefault_of_wf {p : Params} (h : p.wf = true) :
    p.rampDownMin ≤ p.rampDownDefault ∧ p.rampDownDefault < 256 := by
  simpa using check_of_wf h
    (c := ("RAMP_DOWN_DEFAULT", decide (p.rampDownMin ≤ p.rampDownDefault ∧ p.rampDownDefault < 256)))
    (by simp [Params.checks])

section Reset

variable (p : Params) (cfg : CfgRec) (inbox : List Input) (freeCount : Nat)

/-- The two ramp periods are the only drive registers that reset leaves above 0: they need the parameters well formed. -/
theorem driveInv_resetWith (h : p.wf = true) : DriveInv (State.resetWith p cfg inbox freeCount) := by
  obtain ⟨hup, hup8⟩ := rampUpDefault_of_wf h
  obtain ⟨hdown, hdown8⟩ := rampDownDefault_of_wf h
  have up : p.rampUpMin ≤ (sat 8 p.rampUpDefault).toNat := (sat_toNat_of_lt 8 _ hup8).symm ▸ hup
  have down : p.rampDownMin ≤ (sat 8 p.rampDownDefault).toNat := (sat_toNat_of_lt 8 _ hdown8).symm ▸ hdown
  simp [DriveInv, State.resetWith, up, down]

/-- The compare values rest at PWM_MID, or at the end of their registers below it. -/
theorem outputInv_resetWith : OutputInv (State.resetWith p cfg inbox freeCount) := by
  have mid : (sat 16 p.pwmMid).toNat ≤ 2 * p.pwmMid := by rw [sat_toNat]; omega
  simp [OutputInv, State.resetWith, Work.zero, mid]

/-- No pattern has been accepted, and the mode is BLOCKED. -/
theorem rotorInv_resetWith : RotorInv (State.resetWith p cfg inbox freeCount) := by
  simp [RotorInv, State.resetWith]

/-- Every sensor register is 0. -/
theorem sensorInv_resetWith : SensorInv (State.resetWith p cfg inbox freeCount) := by
  simp [SensorInv, State.resetWith]

/-- Every accumulator and every filtered value is 0. -/
theorem filterInv_resetWith : FilterInv (State.resetWith p cfg inbox freeCount) := by
  simp [FilterInv, State.resetWith]

/-- No configuration is valid, both command records are the legal empty one, and every counter is 0. -/
theorem systemInv_resetWith : SystemInv (State.resetWith p cfg inbox freeCount) := by
  have empty : CmdRec.empty.legal = true := rfl
  simp [SystemInv, State.resetWith, empty]

end Reset

end Sys2Proof.Laws

namespace Sys2Proof.Settled

open Sys2Proof.Laws

/-- Settles O14: the state after reset is `State.resetWith` of the well-formed P_REF. -/
theorem invariantsAtReset : Obligations.InvariantsAtReset :=
  ⟨refParams_wf, driveInv_resetWith _ _ _ _ refParams_wf, outputInv_resetWith _ _ _ _, rotorInv_resetWith _ _ _ _,
    sensorInv_resetWith _ _ _ _, filterInv_resetWith _ _ _ _, systemInv_resetWith _ _ _ _⟩

end Sys2Proof.Settled
end

section
/-! PROOFS. What one instruction can do, said once: it runs a list of sub-operations, each on the state the one before it left (rules
R103, R350 to R358; log entry 2). Invariants and frames are proved of one sub-operation each and follow for instructions and steps. -/

namespace Sys2Proof.Laws

open Sys2Proof.Machine

/-! ### Sub-operations -/

/-- The writes instructions are made of: the sub-operations of rule R103, with MODE_POLICY and POST_PROCESS in the two parts that the
code-space rows run by themselves, the intakes of the environment, and the writes that open and close an atomic step. -/
inductive SubOp where
  | reset
  | cfgLoad (record : CfgRec)
  | cmdRx (record : CmdRec)
  | hallEdge (tick : U16) (hall : U3)
  | ibatFilter (adcIbat : U12)
  | pinLatch (adcVbat : U12) (brake : Bool)
  | cadStep (pas : U2)
  | whlStep (whl : Bool)
  | rampStep
  | stallCheck (tick : U16)
  | erpsDerive
  | interp
  | svmSynth
  | cmpCommit
  | openTick
  | cmdLatch
  | snapshot
  | vbatFilter
  | whlSpeed
  | cadRpm
  | tqAcquire (adcTorque : U12)
  | faultDetect
  | latchMode (code : U8)
  | runPolicy
  | cruiseIfLatched
  | fwBonus
  | auxBranch (adcAux : U12)
  | speedLimit
  | globalCaps
  | focUpdate
  | telemetryStage (adcAux : U12)
  | sysSelects
  | publish
  | pwmGate
  | closeTick
  | endFalling
  | endTick

/-- The model's meaning of a sub-operation. -/
def SubOp.run : SubOp → State → State
  | .reset, s => resetState s
  | .cfgLoad r, s => Machine.cfgLoad r s
  | .cmdRx r, s => Machine.cmdRx r s
  | .hallEdge tick hall, s => Machine.hallEdge tick hall s
  | .ibatFilter x, s => Machine.ibatFilter x s
  | .pinLatch v brake, s => Machine.pinLatch v brake s
  | .cadStep pas, s => Machine.cadStep pas s
  | .whlStep whl, s => Machine.whlStep whl s
  | .rampStep, s => Machine.rampStep s
  | .stallCheck tick, s => Machine.stallCheck tick s
  | .erpsDerive, s => Machine.erpsDerive s
  | .interp, s => Machine.interp s
  | .svmSynth, s => Machine.svmSynth s
  | .cmpCommit, s => Machine.cmpCommit s
  | .openTick, s => s.withAsst { s.asst with tickOpen := true }
  | .cmdLatch, s => Machine.cmdLatch s
  | .snapshot, s => Machine.snapshot s
  | .vbatFilter, s => Machine.vbatFilter s
  | .whlSpeed, s => Machine.whlSpeed s
  | .cadRpm, s => Machine.cadRpm s
  | .tqAcquire x, s => Machine.tqAcquire x s
  | .faultDetect, s => Machine.faultDetect s
  | .latchMode code, s => s.withCtl { s.ctl with mode := modeOfCode code }
  | .runPolicy, s => Machine.runPolicy s
  | .cruiseIfLatched, s => if s.ctl.mode = .cruise then cruisePolicy s else s
  | .fwBonus, s => Machine.fwBonus s
  | .auxBranch x, s => Machine.auxBranch x s
  | .speedLimit, s => Machine.speedLimit s
  | .globalCaps, s => Machine.globalCaps s
  | .focUpdate, s => Machine.focUpdate s
  | .telemetryStage x, s => Machine.telemetryStage x s
  | .sysSelects, s => Machine.sysSelects s
  | .publish, s => Machine.publish s
  | .pwmGate, s => Machine.pwmGate s
  | .closeTick, s => Machine.closeTick s
  | .endFalling, s => s.clearWork
  | .endTick, s => s.clearWork

/-- What the instruction that runs the sub-operation has checked by then: records are legal (rules R353, R354), samples within their
maxima (rule R102), and a tick opens on a configured block (rule R425). -/
def SubOp.admitted : SubOp → State → Prop
  | .cfgLoad r, _ => r.legal = true
  | .cmdRx r, _ => r.legal = true
  | .ibatFilter x, s => adcOk s.par.adcIMaxSample x = true
  | .pinLatch v _, s => adcOk s.par.adcVMaxSample v = true
  | .tqAcquire x, s => adcOk s.par.adcTMaxSample x = true
  | .openTick, s => s.asst.cfgValid = true
  | _, _ => True

/-- The agent that runs the sub-operation (rules R20, R103). -/
def SubOp.agent : SubOp → Agent
  | .reset | .cfgLoad _ | .cmdRx _ => .env
  | .hallEdge _ _ => .hall
  | .ibatFilter _ | .pinLatch _ _ | .cadStep _ | .whlStep _ | .rampStep | .stallCheck _ | .erpsDerive | .interp | .svmSynth
  | .cmpCommit | .endFalling => .pwm
  | .openTick | .cmdLatch | .snapshot | .vbatFilter | .whlSpeed | .cadRpm | .tqAcquire _ | .faultDetect | .latchMode _ | .runPolicy
  | .cruiseIfLatched | .fwBonus | .auxBranch _ | .speedLimit | .globalCaps | .focUpdate | .telemetryStage _ | .sysSelects
  | .publish | .pwmGate | .closeTick | .endTick => .main

/-- The sub-operations an instruction runs, in the order of rule R103; a reserved row runs none, for it is refused. -/
def subOps : Instr → List SubOp
  | .reset => [.reset]
  | .cfgLoad r => [.cfgLoad r]
  | .cmdRx r => [.cmdRx r]
  | .hallEdge tick hall => [.hallEdge tick hall]
  | .pwmRising v i brake whl pas => [.ibatFilter i, .pinLatch v brake, .cadStep pas, .whlStep whl, .rampStep]
  | .pwmFalling tick => [.stallCheck tick, .erpsDerive, .interp, .svmSynth, .cmpCommit, .endFalling]
  | .tickBegin x q =>
    [.openTick, .cmdLatch, .snapshot, .vbatFilter, .whlSpeed, .cadRpm, .tqAcquire q, .faultDetect, .runPolicy, .fwBonus,
      .auxBranch x, .speedLimit, .globalCaps, .focUpdate, .telemetryStage x, .endTick]
  | .tickEnd => [.publish, .pwmGate, .closeTick]
  | .evReserved _ | .auxfReserved => []
  | .ibatFilter i => [.ibatFilter i]
  | .pinLatch v brake => [.pinLatch v brake]
  | .cadStep pas => [.cadStep pas]
  | .whlStep whl => [.whlStep whl]
  | .rampStep => [.rampStep]
  | .stallCheck tick => [.stallCheck tick]
  | .erpsDerive => [.erpsDerive]
  | .interp => [.interp]
  | .svmSynth => [.svmSynth]
  | .cmpCommit => [.cmpCommit]
  | .cmdLatch => [.cmdLatch]
  | .snapshot => [.snapshot]
  | .vbatFilter => [.vbatFilter]
  | .whlSpeed => [.whlSpeed]
  | .cadRpm => [.cadRpm]
  | .tqAcquire q => [.tqAcquire q]
  | .faultDetect => [.faultDetect]
  | .modePolicy => [.runPolicy, .fwBonus]
  | .postProcess x => [.auxBranch x, .speedLimit]
  | .globalCaps => [.globalCaps]
  | .focUpdate => [.focUpdate]
  | .telemetryStage x => [.telemetryStage x]
  | .publish => [.publish]
  | .pwmGate => [.pwmGate]
  | .hallS0 tick => [.hallEdge tick 6]
  | .hallS1 tick => [.hallEdge tick 2]
  | .hallS2 tick => [.hallEdge tick 3]
  | .hallS3 tick => [.hallEdge tick 1]
  | .hallS4 tick => [.hallEdge tick 5]
  | .hallS5 tick => [.hallEdge tick 4]
  | .hallInv0 tick => [.hallEdge tick 0]
  | .hallInv7 tick => [.hallEdge tick 7]
  | .pas00Same | .pas10Fwd | .pas20Bwd | .pas30Bwd => [.cadStep 0]
  | .pas01Bwd | .pas11Same | .pas21Bwd | .pas31Fwd => [.cadStep 1]
  | .pas02Fwd | .pas12Bwd | .pas22Same | .pas32Bwd => [.cadStep 2]
  | .pas03Bwd | .pas13Bwd | .pas23Fwd | .pas33Same => [.cadStep 3]
  | .modeOff => [.latchMode 0, .runPolicy, .fwBonus]
  | .modePowerAssist => [.latchMode 1, .runPolicy, .fwBonus]
  | .modeEmtbAssist => [.latchMode 2, .runPolicy, .fwBonus]
  | .modeWalkAssist => [.latchMode 3, .runPolicy, .fwBonus]
  | .modeCruise => [.latchMode 4, .runPolicy, .fwBonus]
  | .modeMotorCalibration => [.latchMode 5, .runPolicy, .fwBonus]
  | .modeReserved code => [.latchMode code, .runPolicy, .fwBonus]
  | .sysNoError | .sysMotorBlocked | .sysTorqueSensorFault | .sysCommLost => [.sysSelects]
  | .cmodeBlocked | .cmodeInterpolated => [.erpsDerive, .interp]
  | .auxfNone => [.auxBranch 0]
  | .auxfThrottle x | .auxfTemperature x => [.auxBranch x]
  | .mtypeMotorA | .mtypeMotorB => [.cruiseIfLatched, .focUpdate]

/-- Every sub-operation of an instruction is run by the instruction's agent. -/
theorem agentOf_of_mem_subOps {i : Instr} {x : SubOp} (hx : x ∈ subOps i) : agentOf i = some x.agent := by
  have agents : (subOps i).all (fun x => decide (agentOf i = some x.agent)) = true := by cases i <;> rfl
  simpa using List.all_eq_true.mp agents x hx

/-- An instruction that completes belongs to an agent: the reserved rows do not complete (rules R112, R117). -/
theorem agentOf_of_next {i : Instr} {s t : State} (h : exec i s = .next t) : ∃ a, agentOf i = some a := by
  cases i with
  | evReserved _ | auxfReserved => cases h
  | _ => exact ⟨_, rfl⟩

/-! ### Runs of sub-operations -/

/-- `l` runs from `s` to `t`, each sub-operation admitted where it runs. -/
def SubRun : List SubOp → State → State → Prop
  | [], s, t => t = s
  | x :: l, s, t => x.admitted s ∧ SubRun l (x.run s) t

/-- What every sub-operation of a run keeps, the run keeps. -/
theorem SubRun.keeps {P : State → Prop} {l : List SubOp} {s t : State} (h : SubRun l s t)
    (hx : ∀ x ∈ l, ∀ u, x.admitted u → P u → P (x.run u)) (hs : P s) : P t := by
  induction l generalizing s with
  | nil => cases h; exact hs
  | cons x l ih =>
    obtain ⟨hadm, hrest⟩ := h
    exact ih hrest (fun y hy => hx y (List.mem_cons_of_mem x hy)) (hx x List.mem_cons_self s hadm hs)

/-- A run that ends in the state `u` ends in what the outcome `.next u` answers. -/
theorem SubRun.of_next {l : List SubOp} {s t u : State} (h : (.next u : Host.Outcome State Fault Refusal) = .next t)
    (hu : SubRun l s u) : SubRun l s t := by
  cases h; exact hu

/-- The same behind a guard, whose condition the run may use. -/
theorem SubRun.of_guarded {l : List SubOp} {s t u : State} {ok : Bool} {r : Refusal} (h : guarded ok r u = .next t)
    (hu : ok = true → SubRun l s u) : SubRun l s t := by
  obtain ⟨hok, rfl⟩ := (guarded_eq_next ok r u t).mp h
  exact hu hok

/-! ### Operations that branch

Each of these writes only the groups its lemma names, whichever branch it takes. -/

section Branching

variable {P : State → Prop} {s : State}

/-- HALL_EDGE writes the rotor registers. -/
theorem hallEdge_elim (tick : U16) (hall : U3) (h : ∀ v, P (s.withRotor v)) : P (Machine.hallEdge tick hall s) := by
  unfold Machine.hallEdge
  split
  · exact h s.rotor
  · split
    · exact h _
    · exact h s.rotor

/-- STALL_CHECK passes `raw` on, and on a stall declares it (rules R22 (a), R140). -/
theorem stallCheck_elim (tick : U16)
    (hstall : s.par.stallTicks < (tick - s.rotor.hallRefTick).toNat → ∀ raw,
      P (declareStall (s.withWork { s.work with raw := raw })))
    (hrun : ∀ raw, P (s.withWork { s.work with raw := raw })) : P (Machine.stallCheck tick s) := by
  simp only [Machine.stallCheck]
  split
  · next hs => exact hstall (of_decide_eq_true hs) _
  · exact hrun _

/-- CMD_LATCH writes the flags of the mailbox, the latched mode and command, and the staged enable of field weakening; the command is
the one held, or what the mailbox makes of it (rules R355, R359). -/
theorem cmdLatch_elim
    (h : ∀ pending missed mode param cmd fw, cmd = s.cmd ∨ cmd = latchRecord s.cmdIn s.cmd →
      P ((((s.withAsst { s.asst with cmdPending := pending, commMissed := missed }).withCtl
        { s.ctl with mode := mode, modeParam := param }).withCmd cmd).withPend { s.pend with fwEnabled := fw })) :
    P (Machine.cmdLatch s) := by
  simp only [Machine.cmdLatch, takeCommand]
  split
  · exact h _ _ _ _ _ _ (.inr rfl)
  · exact h s.asst.cmdPending (sat 8 (s.asst.commMissed.toNat + 1)) s.ctl.mode s.ctl.modeParam s.cmd (effFwEnabled s) (.inl rfl)

/-- What a policy writes: the three registers of CRUISE and the working values (rules R300, R320). -/
def policyWrites (s : State) (active : Bool) (target : U16) (integral : BitVec 32) (tgt : Targets) : State :=
  (s.withAsst { s.asst with cruiseActive := active, cruiseTargetX10 := target, cruiseIntegral := integral }).withTgt tgt

/-- The integral a policy leaves is the one held, or an updated one (rules R320, R321). -/
def IntegralFrom (s : State) (integral : BitVec 32) : Prop :=
  integral = s.asst.cruiseIntegral ∨ ∃ m speed a, integral = cruiseIntegrate s.par m speed a

section Policies

variable (h : ∀ active target integral tgt, IntegralFrom s integral → P (policyWrites s active target integral tgt))
include h

/-- CRUISE, in both of its branches (rule R320). -/
theorem cruisePolicy_elim : P (cruisePolicy s) := by
  simp only [cruisePolicy, cruiseEngage]
  split
  · split <;> split <;> exact h _ _ _ _ (.inr ⟨_, _, _, rfl⟩)
  · exact h false s.asst.cruiseTargetX10 _ _ (.inl rfl)

/-- The policy of any mode: one other than CRUISE clears `cruise_active` (rules R300, R322). -/
theorem runPolicy_elim : P (Machine.runPolicy s) := by
  cases hmode : s.ctl.mode with
  | cruise => simpa only [Machine.runPolicy, hmode] using cruisePolicy_elim h
  | _ =>
    simp only [Machine.runPolicy, hmode]
    exact h false s.asst.cruiseTargetX10 _ _ (.inl rfl)

/-- The cruise policy where that mode is latched (rule R323). -/
theorem cruiseIfLatched_elim : P (SubOp.cruiseIfLatched.run s) := by
  simp only [SubOp.run]
  split
  · exact cruisePolicy_elim h
  · exact h s.asst.cruiseActive s.asst.cruiseTargetX10 _ s.tgt (.inl rfl)

end Policies

/-- The branch of the optional-ADC function writes `aux_value` and the working values (rule R327). -/
theorem auxBranch_elim (x : U12) (h : ∀ v tgt, P ((s.withAsst { s.asst with auxValue := v }).withTgt tgt)) :
    P (Machine.auxBranch x s) := by
  unfold Machine.auxBranch
  split
  · exact h _ _
  · exact h _ _
  · exact h 0 s.tgt
  · exact h 0 s.tgt

/-- PWM_GATE changes nothing, disables the output, or enables it and re-initialises the ramp (rules R22 (b), R362). -/
theorem pwmGate_elim (hkeep : P s) (hoff : P (s.withOut { s.out with pwmEnabled := false }))
    (hon : s.out.pwmEnabled = false →
      P ((s.withOut { s.out with pwmEnabled := true }).withDrive (driveOnEnable s.par s.drive))) : P (Machine.pwmGate s) := by
  unfold Machine.pwmGate
  split
  · next hd =>
    split
    · exact hon (by simpa using hd)
    · exact hkeep
  · split
    · exact hoff
    · exact hkeep

end Branching

/-! ### Instructions and steps -/

/-- No sub-operation writes the parameter set (rule R70). -/
@[simp] theorem SubOp.run_par (x : SubOp) (s : State) : (x.run s).par = s.par := by
  cases x with
  | hallEdge tick hall => exact hallEdge_elim (P := fun t => t.par = s.par) tick hall fun _ => rfl
  | stallCheck tick => exact stallCheck_elim (P := fun t => t.par = s.par) tick (fun _ _ => rfl) fun _ => rfl
  | cmdLatch => exact cmdLatch_elim (P := fun t => t.par = s.par) fun _ _ _ _ _ _ _ => rfl
  | runPolicy => exact runPolicy_elim (P := fun t => t.par = s.par) fun _ _ _ _ _ => rfl
  | cruiseIfLatched => exact cruiseIfLatched_elim (P := fun t => t.par = s.par) fun _ _ _ _ _ => rfl
  | auxBranch a => exact auxBranch_elim (P := fun t => t.par = s.par) a fun _ _ => rfl
  | pwmGate => exact pwmGate_elim (P := fun t => t.par = s.par) rfl rfl fun _ => rfl
  | _ => rfl

/-- Both samples of PWM_RISING are checked before the first sub-operation runs (rules R351, R435). -/
theorem subRun_of_pwmRising {v x : U12} {brake whl : Bool} {pas : U2} {s t : State}
    (h : execPwmRising v x brake whl pas s = .next t) : SubRun (subOps (.pwmRising v x brake whl pas)) s t := by
  unfold execPwmRising at h
  split at h
  · refine .of_guarded h fun hadc => ?_
    obtain ⟨hv, hx⟩ := Bool.and_eq_true_iff.mp hadc
    exact ⟨hx, hv, trivial, trivial, trivial, rfl⟩
  · cases h

/-- TICK_BEGIN has checked the configuration and the torque sample before the first sub-operation runs (rules R355, R435). -/
theorem subRun_of_tickBegin {x q : U12} {s t : State} (h : execTickBegin x q s = .next t) :
    SubRun (subOps (.tickBegin x q)) s t := by
  unfold execTickBegin at h
  split at h
  · next hcfg =>
    split at h
    · cases h
    · refine .of_guarded h fun hadc => ?_
      obtain ⟨-, hq⟩ := Bool.and_eq_true_iff.mp hadc
      refine ⟨hcfg, trivial, trivial, trivial, trivial, trivial, ?_, trivial, trivial, trivial, trivial, trivial, trivial, trivial,
        trivial, trivial, rfl⟩
      simpa only [SubOp.admitted, SubOp.run_par] using hq
  · cases h

/-- TICK_END (rule R358). -/
theorem subRun_of_tickEnd {s t : State} (h : execTickEnd s = .next t) : SubRun (subOps .tickEnd) s t := by
  unfold execTickEnd at h
  split at h
  · exact .of_guarded h fun _ => ⟨trivial, trivial, trivial, rfl⟩
  · cases h

/-- CMD_RX (rule R354). -/
theorem subRun_of_cmdRx {r : CmdRec} {s t : State} (h : execCmdRx r s = .next t) : SubRun (subOps (.cmdRx r)) s t := by
  unfold execCmdRx at h
  split at h
  · exact .of_guarded h fun hr => ⟨hr, rfl⟩
  · cases h

/-- A row of format AUXF with a sample (rules R328, R332). -/
theorem subRun_of_auxRow {x : U12} {held : Bool} {s t : State}
    (h : (if adcOk s.par.adcAuxMaxSample x then guarded held .codeNotHeld (Machine.auxBranch x s)
      else .refused .adcAboveMaximum) = .next t) : SubRun [.auxBranch x] s t := by
  split at h
  · exact .of_guarded h fun _ => ⟨trivial, rfl⟩
  · cases h

/-- An instruction that completes has run its sub-operations. -/
theorem subRun_of_exec {i : Instr} {s t : State} (h : exec i s = .next t) : SubRun (subOps i) s t := by
  cases i with
  | pwmRising => exact subRun_of_pwmRising h
  | tickBegin => exact subRun_of_tickBegin h
  | tickEnd => exact subRun_of_tickEnd h
  | cmdRx => exact subRun_of_cmdRx h
  | evReserved | auxfReserved => cases h
  | pwmFalling => exact .of_guarded h fun _ => ⟨trivial, trivial, trivial, trivial, trivial, trivial, rfl⟩
  | cfgLoad | ibatFilter | pinLatch | tqAcquire => exact .of_guarded h fun hok => ⟨hok, rfl⟩
  | postProcess => exact .of_guarded h fun _ => ⟨trivial, trivial, rfl⟩
  | modePolicy => exact .of_next h ⟨trivial, trivial, rfl⟩
  | modeOff | modePowerAssist | modeEmtbAssist | modeWalkAssist | modeCruise | modeMotorCalibration | modeReserved =>
    exact .of_next h ⟨trivial, trivial, trivial, rfl⟩
  | cmodeBlocked | cmodeInterpolated | mtypeMotorA | mtypeMotorB => exact .of_guarded h fun _ => ⟨trivial, trivial, rfl⟩
  | auxfThrottle | auxfTemperature => exact subRun_of_auxRow h
  | reset | cadStep | whlStep | rampStep | stallCheck | erpsDerive | interp | svmSynth | cmpCommit | cmdLatch | snapshot | vbatFilter
  | whlSpeed | cadRpm | faultDetect | globalCaps | focUpdate | publish | pwmGate => exact .of_next h ⟨trivial, rfl⟩
  | _ => exact .of_guarded h fun _ => ⟨trivial, rfl⟩

/-- A property that taking an item and every admitted sub-operation keep is kept by every step. -/
theorem step_keeps {P : State → Prop} (htake : ∀ s rest, P s → P (s.withInbox rest))
    (hx : ∀ (x : SubOp) u, u.par.wf = true → x.admitted u → P u → P (x.run u)) {s t : State} (hs : P s)
    (h : step s = .next t) : P t := by
  obtain ⟨hw, ⟨-, rfl⟩ | ⟨_, rest, _, -, -, hrun⟩⟩ := deliver_cases exec s t h
  · exact hs
  · have both : t.par.wf = true ∧ P t :=
      (subRun_of_exec hrun).keeps (P := fun u => u.par.wf = true ∧ P u)
        (fun x _ u hadm ⟨hwu, hu⟩ => ⟨by rwa [SubOp.run_par], hx x u hwu hadm hu⟩) ⟨hw, htake s rest hs⟩
    exact both.2

end Sys2Proof.Laws
end

section
/-! PROOFS. The drive registers keep their ranges (rules R27, R28, R34, R209, R341, R344): RAMP_STEP and PWM_GATE write the duty cycle,
the offset and the ramp counters, GLOBAL_CAPS stages the targets, PUBLISH copies them. -/

namespace Sys2Proof.Laws

open Sys2Proof.Machine

/-! ### Constraints of the parameter set (rule R7) -/

section Constraints

variable {p : Params} (h : p.wf = true)
include h

theorem dutyMax_of_wf : 1 ≤ p.dutyMax ∧ p.dutyMax ≤ 255 := by
  simpa using check_of_wf h (c := ("DUTY_MAX", decide (1 ≤ p.dutyMax ∧ p.dutyMax ≤ 255))) (by simp [Params.checks])

theorem fwMax_of_wf : p.fwMax < 256 := by
  simpa using check_of_wf h (c := ("FW_MAX", decide (p.fwMax < 256))) (by simp [Params.checks])

theorem dutyStartup_of_wf : p.dutyStartup ≤ p.dutyMax := by
  simpa using check_of_wf h (c := ("DUTY_STARTUP", decide (p.dutyStartup ≤ p.dutyMax))) (by simp [Params.checks])

theorem iAdcMax_of_wf : p.iAdcMax < 65536 := by
  simpa using check_of_wf h (c := ("I_ADC_MAX", decide (p.iAdcMax < 65536))) (by simp [Params.checks])

theorem rampUpMin_of_wf : 1 ≤ p.rampUpMin ∧ p.rampUpMin ≤ 255 := by
  simpa using check_of_wf h (c := ("RAMP_UP_MIN", decide (1 ≤ p.rampUpMin ∧ p.rampUpMin ≤ 255))) (by simp [Params.checks])

theorem rampDownMin_of_wf : 1 ≤ p.rampDownMin ∧ p.rampDownMin ≤ 255 := by
  simpa using check_of_wf h (c := ("RAMP_DOWN_MIN", decide (1 ≤ p.rampDownMin ∧ p.rampDownMin ≤ 255)))
    (by simp [Params.checks])

end Constraints

/-- `sat` never raises a value. -/
theorem sat_toNat_le (n v : Nat) : (sat n v).toNat ≤ v := by
  rw [sat_toNat]; omega

/-- A register above 0 counts down by one. -/
theorem toNat_sub_one {w : Nat} {v : BitVec (w + 1)} (h : v ≠ 0) : (v - 1).toNat = v.toNat - 1 := by
  have hv : v.toNat ≠ 0 := fun h0 => h (BitVec.eq_of_toNat_eq (by simpa using h0))
  have hone : (1 : BitVec (w + 1)).toNat = 1 := BitVec.toNat_one (Nat.succ_pos w)
  rw [BitVec.toNat_sub_of_le (by rw [BitVec.le_def, hone]; omega), hone]

/-! ### The ramp -/

/-- The part of `DriveInv` that PWM writes: the duty cycle, the offset and the two ramp counters (rules R27, R28, R209). -/
def RampInv (p : Params) (d : DriveState) : Prop :=
  d.duty.toNat ≤ p.dutyMax ∧ d.fwAngle.toNat ≤ p.fwMax ∧ (0 < d.fwAngle.toNat → d.duty.toNat = p.dutyMax)
  ∧ d.rampUpCnt.toNat ≤ 254 ∧ d.rampDownCnt.toNat ≤ 254

/-- Only the four registers of `RampInv` differ (rules R21, R27). -/
def RampFrame (d d' : DriveState) : Prop :=
  d' = { d with duty := d'.duty, fwAngle := d'.fwAngle, rampUpCnt := d'.rampUpCnt, rampDownCnt := d'.rampDownCnt }

theorem rampFrame_stepDown (d : DriveState) : RampFrame d (stepDown d) := by
  unfold stepDown
  split
  · rfl
  · split <;> rfl

theorem rampFrame_rampDown (period : Nat) (d : DriveState) : RampFrame d (rampDown period d) := by
  simp only [rampDown]
  split
  · exact rampFrame_stepDown { d with rampUpCnt := 0, rampDownCnt := 0 }
  · rfl

theorem rampFrame_raiseFw (fwMax : Nat) (d : DriveState) : RampFrame d (raiseFw fwMax d) := by
  unfold raiseFw
  split <;> rfl

theorem rampFrame_rampUp {raise : DriveState → DriveState} (h : ∀ d, RampFrame d (raise d)) (d : DriveState) :
    RampFrame d (rampUp raise d) := by
  simp only [rampUp]
  split
  · exact h { d with rampDownCnt := 0, rampUpCnt := 0 }
  · rfl

/-- RAMP_STEP leaves what MAIN publishes (rules R21, R202). -/
theorem rampFrame_rampStep (s : State) : RampFrame s.drive (rampStep s).drive := by
  simp only [rampStep, State.withDrive_drive]
  split
  · exact rampFrame_rampDown _ _
  · split
    · exact rampFrame_rampUp (raise := raiseDuty) (fun _ => rfl) _
    · split
      · exact rampFrame_rampUp (rampFrame_raiseFw _) _
      · rfl

section Ramp

variable {p : Params} {d : DriveState}

/-- A down step lowers the offset first, and the duty cycle only from an offset of 0 (rule R205). -/
theorem rampInv_stepDown (h : RampInv p d) : RampInv p (stepDown d) := by
  obtain ⟨hduty, hfw, hfull, hcnt⟩ := id h
  unfold stepDown
  split
  · next hfw0 =>
    have hpred := toNat_sub_one hfw0
    exact ⟨hduty, by simp only [hpred]; omega, fun hpos => hfull (by simp only [hpred] at hpos; omega), hcnt⟩
  · next hfw0 =>
    have hzero : d.fwAngle = 0 := not_not.mp hfw0
    split
    · next hduty0 =>
      have hpred := toNat_sub_one hduty0
      exact ⟨by simp only [hpred]; omega, hfw, fun hpos => absurd hpos (by simp [hzero]), hcnt⟩
    · exact h

/-- Direction DOWN: a counter short of its period is below 255 (rules R205, R208). -/
theorem rampInv_rampDown {period : Nat} (hp : period ≤ 255) (h : RampInv p d) : RampInv p (rampDown period d) := by
  obtain ⟨hduty, hfw, hfull, -⟩ := h
  simp only [rampDown]
  split
  · exact rampInv_stepDown ⟨hduty, hfw, hfull, Nat.zero_le _, Nat.zero_le _⟩
  · exact ⟨hduty, hfw, hfull, Nat.zero_le _, (sat_toNat_le 8 _).trans (by omega)⟩

/-- Direction UP, for either value it raises (rules R206 to R208). -/
theorem rampInv_rampUp {raise : DriveState → DriveState} (h : RampInv p d)
    (hraise : ∀ d', d'.duty = d.duty → d'.dutyTarget = d.dutyTarget → RampInv p d' → RampInv p (raise d')) :
    RampInv p (rampUp raise d) := by
  obtain ⟨hduty, hfw, hfull, -⟩ := h
  have hperiod := d.rampUpPeriod.isLt
  simp only [rampUp]
  split
  · exact hraise _ rfl rfl ⟨hduty, hfw, hfull, Nat.zero_le _, Nat.zero_le _⟩
  · exact ⟨hduty, hfw, hfull, (sat_toNat_le 8 _).trans (by omega), Nat.zero_le _⟩

/-- The duty cycle is raised below its target only, so the offset is 0 there (rules R28, R206). -/
theorem rampInv_raiseDuty (hlt : d.duty.toNat < d.dutyTarget.toNat) (hm : d.dutyTarget.toNat ≤ p.dutyMax) (h : RampInv p d) :
    RampInv p (raiseDuty d) := by
  obtain ⟨-, hfw, hfull, hcnt⟩ := h
  exact ⟨(sat_toNat_le 8 _).trans (by omega), hfw, fun hpos => absurd (hfull hpos) (by omega), hcnt⟩

/-- The offset is raised at full duty, up to FW_MAX (rule R207). -/
theorem rampInv_raiseFw (hd : d.duty.toNat = p.dutyMax) (h : RampInv p d) : RampInv p (raiseFw p.fwMax d) := by
  obtain ⟨hduty, hfw, hfull, hcnt⟩ := id h
  unfold raiseFw
  split
  · next hlt => exact ⟨hduty, (sat_toNat_le 8 _).trans hlt, fun _ => hd, hcnt⟩
  · exact h

end Ramp

/-- The down period of a cycle fits a u8 (rule R204). -/
theorem downPeriod_le {s : State} (hw : s.par.wf = true) : downPeriod s ≤ 255 := by
  have hmin := (rampDownMin_of_wf hw).2
  have hreg := s.drive.rampDownPeriod.isLt
  unfold downPeriod
  split <;> omega

/-- RAMP_STEP, direction by direction (rule R202). -/
theorem rampInv_rampStep {s : State} (hw : s.par.wf = true) (ht : s.drive.dutyTarget.toNat ≤ s.par.dutyMax)
    (h : RampInv s.par s.drive) : RampInv s.par (rampStep s).drive := by
  simp only [rampStep, State.withDrive_drive]
  split
  · exact rampInv_rampDown (downPeriod_le hw) h
  · split
    · next hlt =>
      refine rampInv_rampUp h fun d hd hdt => rampInv_raiseDuty ?_ ?_
      · rw [hd, hdt]; exact hlt
      · rwa [hdt]
    · split
      · next hraise =>
        simp only [fwRampUp, Bool.and_eq_true, decide_eq_true_eq] at hraise
        obtain ⟨⟨hmax, -⟩, -⟩ := hraise
        exact rampInv_rampUp h fun d hd _ => rampInv_raiseFw (by rwa [hd])
      · obtain ⟨hduty, hfw, hfull, -⟩ := h
        exact ⟨hduty, hfw, hfull, Nat.zero_le _, Nat.zero_le _⟩

/-- RAMP_STEP (rules R27, R28, R209). -/
theorem driveInv_rampStep {s : State} (hw : s.par.wf = true) (h : DriveInv s) : DriveInv (rampStep s) := by
  obtain ⟨⟨hduty, hfw, hfull⟩, htarget, hcnt, hpend, hsnap⟩ := h
  obtain ⟨hduty', hfw', hfull', hcnt'⟩ := rampInv_rampStep hw htarget.1 ⟨hduty, hfw, hfull, hcnt⟩
  refine ⟨⟨hduty', hfw', hfull'⟩, ?_, hcnt', hpend, hsnap⟩
  rw [rampFrame_rampStep s]
  exact htarget

/-- PWM_GATE's re-enable starts the ramp at DUTY_STARTUP with the fastest periods (rule R362). -/
theorem driveInv_pwmGate {s : State} (hw : s.par.wf = true) (h : DriveInv s) : DriveInv (pwmGate s) := by
  obtain ⟨-, ⟨hdt, hit, hzero, -, -⟩, -, hpend, hsnap⟩ := id h
  refine pwmGate_elim (P := DriveInv) h h fun _ => ?_
  have hstart : (sat 8 s.par.dutyStartup).toNat ≤ s.par.dutyMax := (sat_toNat_le 8 _).trans (dutyStartup_of_wf hw)
  have hup : (sat 8 s.par.rampUpMin).toNat = s.par.rampUpMin :=
    sat_toNat_of_lt 8 _ (Nat.lt_succ_of_le (rampUpMin_of_wf hw).2)
  have hdown : (sat 8 s.par.rampDownMin).toNat = s.par.rampDownMin :=
    sat_toNat_of_lt 8 _ (Nat.lt_succ_of_le (rampDownMin_of_wf hw).2)
  exact ⟨⟨hstart, Nat.zero_le _, fun hpos => absurd hpos (by simp [driveOnEnable])⟩, ⟨hdt, hit, hzero, hup.ge, hdown.ge⟩,
    ⟨Nat.zero_le _, Nat.zero_le _⟩, hpend, hsnap⟩

/-! ### The staged targets -/

/-- What the caps and the gate make of the working values (rules R340 to R343). -/
def TargetsInRange (p : Params) (g : Targets) : Prop :=
  (g.dutyTgt ≤ p.dutyMax ∧ g.i ≤ p.iAdcMax ∧ (g.i = 0 → g.dutyTgt = 0))
  ∧ (p.rampUpMin ≤ g.up ∧ g.up ≤ 255) ∧ (p.rampDownMin ≤ g.down ∧ g.down ≤ 255)

/-- RAMP_FLOOR takes off at most what lies above the fastest period (rule R342). -/
theorem rampUpFloor_range {p : Params} (hw : p.wf = true) (cmd : CmdRec) (up : Nat) :
    p.rampUpMin ≤ rampUpFloor p cmd up ∧ rampUpFloor p cmd up ≤ 255 := by
  obtain ⟨hlo, hhi⟩ := clampNat_bounds up p.rampUpMin 255 (rampUpMin_of_wf hw).2
  simp only [rampUpFloor]
  generalize clampNat up p.rampUpMin 255 = u at *
  split
  · have hpart : (u - p.rampUpMin) * min cmd.accel.toNat 100 / 100 ≤ u - p.rampUpMin :=
      Nat.div_le_of_le_mul (by rw [Nat.mul_comm 100]; exact Nat.mul_le_mul_left _ (Nat.min_le_right _ _))
    omega
  · exact ⟨hlo, hhi⟩

/-- The current ceiling of a tick is within I_ADC_MAX (rule R302). -/
theorem iCap_le (s : State) : iCap s ≤ s.par.iAdcMax := (Nat.min_le_left _ _).trans (Nat.min_le_left _ _)

/-- The caps (rules R340 to R342). -/
theorem targetsInRange_capTargets {p : Params} (hw : p.wf = true) (cmd : CmdRec) {cap : Nat} (hc : cap ≤ p.iAdcMax) (g : Targets) :
    TargetsInRange p (capTargets p cmd cap g) := by
  refine ⟨⟨?_, (Nat.min_le_right _ _).trans hc, fun hi => if_pos hi⟩, rampUpFloor_range hw cmd g.up,
    clampNat_bounds _ _ _ (rampDownMin_of_wf hw).2⟩
  simp only [capTargets]
  split <;> omega

/-- FAULT_GATE zeroes both targets together and sets the fastest down period (rule R343). -/
theorem targetsInRange_faultGate {p : Params} (hw : p.wf = true) (x : SysState) {g : Targets} (h : TargetsInRange p g) :
    TargetsInRange p (faultGateTargets p x g) := by
  rcases faultGateTargets_cases p x g with ⟨-, hg⟩ | ⟨-, hg⟩ <;> rw [hg]
  · exact h
  · exact ⟨⟨Nat.zero_le _, Nat.zero_le _, fun _ => rfl⟩, h.2.1, Nat.le_refl _, (rampDownMin_of_wf hw).2⟩

/-- STAGE loses nothing of targets in range (rule R344). -/
theorem driveInv_stage {s : State} (hw : s.par.wf = true) (h : DriveInv s) (hg : TargetsInRange s.par s.tgt) : DriveInv (stage s) := by
  obtain ⟨hduty, htarget, hcnt, -, hsnap⟩ := h
  obtain ⟨⟨hdt, hit, hzero⟩, ⟨hup, hup8⟩, hdown, hdown8⟩ := hg
  have hmax := (dutyMax_of_wf hw).2
  have himax := iAdcMax_of_wf hw
  have hi : (sat 16 s.tgt.i).toNat = s.tgt.i := sat_toNat_of_lt 16 _ (by omega)
  have hd : (sat 8 s.tgt.dutyTgt).toNat = s.tgt.dutyTgt := sat_toNat_of_lt 8 _ (by omega)
  have hu : (sat 8 s.tgt.up).toNat = s.tgt.up := sat_toNat_of_lt 8 _ (by omega)
  have hw' : (sat 8 s.tgt.down).toNat = s.tgt.down := sat_toNat_of_lt 8 _ (by omega)
  refine ⟨hduty, htarget, hcnt, ?_, hsnap⟩
  simp only [stage, State.withPend_pend, State.withPend_par, hi, hd, hu, hw']
  exact ⟨hdt, hit, hzero, hup, hdown⟩

/-- GLOBAL_CAPS (rule R340). -/
theorem driveInv_globalCaps {s : State} (hw : s.par.wf = true) (h : DriveInv s) : DriveInv (globalCaps s) :=
  driveInv_stage (s := faultGate (s.withTgt (capTargets s.par s.cmd (iCap s) s.tgt))) hw h
    (targetsInRange_faultGate hw _ (targetsInRange_capTargets hw s.cmd (iCap_le s) s.tgt))

/-! ### Every sub-operation -/

/-- The other sub-operations write none of the registers of `DriveInv`. -/
theorem driveInv_subOp (x : SubOp) {s : State} (hw : s.par.wf = true) (h : DriveInv s) : DriveInv (x.run s) := by
  cases x with
  | reset => exact driveInv_resetWith _ _ _ _ hw
  | rampStep => exact driveInv_rampStep hw h
  | pwmGate => exact driveInv_pwmGate hw h
  | globalCaps => exact driveInv_globalCaps hw h
  | publish =>
    obtain ⟨hduty, -, hcnt, hpend, hsnap⟩ := h
    exact ⟨hduty, hpend, hcnt, hpend, hsnap⟩
  | snapshot =>
    obtain ⟨hduty, htarget, hcnt, hpend, -⟩ := h
    exact ⟨hduty, htarget, hcnt, hpend, hduty.1⟩
  | hallEdge tick hall => exact hallEdge_elim (P := DriveInv) tick hall fun _ => h
  | stallCheck tick => exact stallCheck_elim (P := DriveInv) tick (fun _ _ => h) fun _ => h
  | cmdLatch => exact cmdLatch_elim (P := DriveInv) fun _ _ _ _ _ _ _ => h
  | runPolicy => exact runPolicy_elim (P := DriveInv) fun _ _ _ _ _ => h
  | cruiseIfLatched => exact cruiseIfLatched_elim (P := DriveInv) fun _ _ _ _ _ => h
  | auxBranch a => exact auxBranch_elim (P := DriveInv) a fun _ _ => h
  | _ => exact h

end Sys2Proof.Laws

namespace Sys2Proof.Settled

open Sys2Proof.Laws

/-- Settles O8: every sub-operation keeps `DriveInv`. -/
theorem driveInvKept : Obligations.DriveInvKept := fun _ _ hs hstep =>
  step_keeps (fun _ _ h => h) (fun x _ hw _ h => driveInv_subOp x hw h) hs hstep

end Sys2Proof.Settled
end

section
/-! PROOFS. The compare values stay within 0 to 2 * PWM_MID (rules R25, R164, R165, R167): SVM_SYNTH computes them at a duty cycle that
`DriveInv` bounds, and CMP_COMMIT moves them to their registers. -/

namespace Sys2Proof.Laws

open Sys2Proof.Machine

/-- A compare value lies within PWM_MID of PWM_MID (rule R164). -/
theorem phaseOf_le {p : Params} (hw : p.wf = true) (idx duty : U8) (hd : duty.toNat ≤ p.dutyMax) :
    phaseOf p duty (svmRead p.svmTable idx) ≤ 2 * p.pwmMid := by
  obtain ⟨habove, -⟩ := svm_deviation_le p hw idx duty.toNat hd
  unfold phaseOf
  split
  · simp only [shr]; omega
  · omega

/-- The same of the register it is stored in. -/
theorem phase_le {s : State} (hw : s.par.wf = true) (hd : s.drive.duty.toNat ≤ s.par.dutyMax) (idx : U8) :
    (phase s idx).toNat ≤ 2 * s.par.pwmMid :=
  (sat_toNat_le 16 _).trans (phaseOf_le hw idx s.drive.duty hd)

/-- The other sub-operations write neither the compare values nor the three on their way to them. -/
theorem outputInv_subOp (x : SubOp) {s : State} (hw : s.par.wf = true) (hd : DriveInv s) (h : OutputInv s) :
    OutputInv (x.run s) := by
  cases x with
  | reset => exact outputInv_resetWith _ _ _ _
  | svmSynth =>
    have hphase := phase_le hw hd.1.1
    exact ⟨h.1, hphase _, hphase _, hphase _⟩
  | cmpCommit => exact ⟨h.2, h.2⟩
  | endFalling | endTick => exact ⟨h.1, Nat.zero_le _, Nat.zero_le _, Nat.zero_le _⟩
  | hallEdge tick hall => exact hallEdge_elim (P := OutputInv) tick hall fun _ => h
  | stallCheck tick => exact stallCheck_elim (P := OutputInv) tick (fun _ _ => h) fun _ => h
  | cmdLatch => exact cmdLatch_elim (P := OutputInv) fun _ _ _ _ _ _ _ => h
  | runPolicy => exact runPolicy_elim (P := OutputInv) fun _ _ _ _ _ => h
  | cruiseIfLatched => exact cruiseIfLatched_elim (P := OutputInv) fun _ _ _ _ _ => h
  | auxBranch a => exact auxBranch_elim (P := OutputInv) a fun _ _ => h
  | pwmGate => exact pwmGate_elim (P := OutputInv) h h fun _ => h
  | _ => exact h

end Sys2Proof.Laws

namespace Sys2Proof.Settled

open Sys2Proof.Laws Sys2Proof.Machine

/-- Settles O9: every sub-operation keeps `DriveInv` and with it `OutputInv`. -/
theorem outputInvKept : Obligations.OutputInvKept := fun _ _ hd ho hstep =>
  (step_keeps (P := fun s => DriveInv s ∧ OutputInv s) (fun _ _ h => h)
    (fun x _ hw _ h => ⟨driveInv_subOp x hw h.1, outputInv_subOp x hw h.1 h.2⟩) ⟨hd, ho⟩ hstep).2

end Sys2Proof.Settled
end

section
/-! PROOFS. The rotor state stays consistent (rules R24 (iv), R134, R137): a Hall edge writes the pattern with its sector, and a stall
takes away the mode with its reference. -/

namespace Sys2Proof.Laws

open Sys2Proof.Machine

/-- HALL_EDGE changes nothing, or captures a pattern that rule R133 accepts (rule R130). -/
theorem hallEdge_cases (tick : U16) (hall : U3) (s : State) :
    hallEdge tick hall s = s
      ∨ ∃ k, hallSector hall = some k ∧ hallAccept s.rotor.hallLast hall = true
        ∧ hallEdge tick hall s
          = s.withRotor (hallRevolution s.par tick k s.rotor (hallCapture s.cfg tick hall k s.rotor)) := by
  cases hk : hallSector hall with
  | none => left; simp [hallEdge, hk]
  | some k =>
    by_cases ha : hallAccept s.rotor.hallLast hall = true
    · right; exact ⟨k, rfl, ha, by simp [hallEdge, hk, ha]⟩
    · left; simp [hallEdge, hk, ha]

/-- Only the transition into REV_SECTOR writes the revolution's reference and the mode, and then the reference is valid (rule R137). -/
theorem hallRevolution_cases (p : Params) (tick : U16) (k : Fin 6) (r0 r : RotorState) :
    hallRevolution p tick k r0 r = r
      ∨ k.val = p.revSector ∧ (hallRevolution p tick k r0 r).revRefValid = true
        ∧ (hallRevolution p tick k r0 r).hallLast = r.hallLast ∧ (hallRevolution p tick k r0 r).sector = r.sector
        ∧ ((hallRevolution p tick k r0 r).commMode = r.commMode
          ∨ r0.revRefValid = true ∧ (hallRevolution p tick k r0 r).commMode = .interpolated) := by
  unfold hallRevolution
  split
  · next hk =>
    right
    split
    · next hr => exact ⟨hk, rfl, rfl, rfl, .inr ⟨hr, rfl⟩⟩
    · exact ⟨hk, rfl, rfl, rfl, .inl rfl⟩
  · exact .inl rfl

/-- HALL_EDGE (rules R24 (iv), R134). -/
theorem rotorInv_hallEdge (tick : U16) (hall : U3) {s : State} (h : RotorInv s) : RotorInv (hallEdge tick hall s) := by
  obtain ⟨-, -, -, href⟩ := id h
  rcases hallEdge_cases tick hall s with he | ⟨k, hk, haccept, he⟩ <;> rw [he]
  · exact h
  · obtain ⟨h0, h7, -⟩ := (hallAccept_iff s.rotor.hallLast hall).mp haccept
    simp only [RotorInv, State.withRotor_rotor]
    rcases hallRevolution_cases s.par tick k s.rotor (hallCapture s.cfg tick hall k s.rotor) with
      hr | ⟨-, hvalid, hlast, hsector, -⟩
    · rw [hr]
      exact ⟨h7, fun _ => hk, fun hz => absurd hz h0, href⟩
    · rw [hlast, hsector, hvalid]
      exact ⟨h7, fun _ => hk, fun hz => absurd hz h0, fun _ => rfl⟩

/-- The other sub-operations write none of the registers of `RotorInv`. -/
theorem rotorInv_subOp (x : SubOp) {s : State} (h : RotorInv s) : RotorInv (x.run s) := by
  cases x with
  | reset => exact rotorInv_resetWith _ _ _ _
  | hallEdge tick hall => exact rotorInv_hallEdge tick hall h
  | stallCheck tick =>
    obtain ⟨hlast, hsector, -, -⟩ := id h
    exact stallCheck_elim (P := RotorInv) tick (fun _ _ => ⟨hlast, hsector, fun _ => rfl, nofun⟩) fun _ => h
  | cmdLatch => exact cmdLatch_elim (P := RotorInv) fun _ _ _ _ _ _ _ => h
  | runPolicy => exact runPolicy_elim (P := RotorInv) fun _ _ _ _ _ => h
  | cruiseIfLatched => exact cruiseIfLatched_elim (P := RotorInv) fun _ _ _ _ _ => h
  | auxBranch a => exact auxBranch_elim (P := RotorInv) a fun _ _ => h
  | pwmGate => exact pwmGate_elim (P := RotorInv) h h fun _ => h
  | _ => exact h

end Sys2Proof.Laws

namespace Sys2Proof.Settled

open Sys2Proof.Laws

/-- Settles O10: every sub-operation keeps `RotorInv`. -/
theorem rotorInvKept : Obligations.RotorInvKept := fun _ _ hs hstep =>
  step_keeps (fun _ _ h => h) (fun x _ _ _ h => rotorInv_subOp x h) hs hstep

end Sys2Proof.Settled
end

section
/-! PROOFS. The filter accumulators stay within their bounds and the filtered values are them shifted (rules R29, R184, R289, R360,
R361): each is an instance of `lowPass_le`, for samples within their maximum. -/

namespace Sys2Proof.Laws

open Sys2Proof.Machine

/-- The largest voltage sample fits its register (rule R7). -/
theorem adcVMaxSample_of_wf {p : Params} (h : p.wf = true) : p.adcVMaxSample < 65536 := by
  simpa using check_of_wf h (c := ("ADC_V_MAX_SAMPLE", decide (p.adcVMaxSample < 65536))) (by simp [Params.checks])

/-- A sample that passes the check is within its maximum (rule R102). -/
theorem adcOk_iff (m : Nat) (v : U12) : adcOk m v = true ↔ v.toNat ≤ m := decide_eq_true_iff

/-- An accumulator register keeps the bound of its filter. -/
theorem sat_lowPass_le (n k m acc x : Nat) (ha : acc ≤ m * 2 ^ k) (hx : x ≤ m) : (sat n (lowPass k acc x)).toNat ≤ m * 2 ^ k :=
  (sat_toNat_le n _).trans (lowPass_le k m acc x ha hx)

/-- The filtered value loses nothing where the shifted accumulator fits it. -/
theorem sat_shr_toNat (acc k : Nat) (h : acc / 2 ^ k < 65536) : (sat 16 (shr acc k)).toNat = acc / 2 ^ k :=
  sat_toNat_of_lt 16 _ h

/-- IBAT_FILTER: its accumulator is a u16 register, so the filtered value fits one (rule R360). -/
theorem filterInv_ibatFilter {x : U12} {s : State} (hx : x.toNat ≤ s.par.adcIMaxSample) (h : FilterInv s) :
    FilterInv (ibatFilter x s) := by
  obtain ⟨⟨hacc, -⟩, hrest⟩ := h
  exact ⟨⟨sat_lowPass_le 16 _ _ _ _ hacc hx, sat_shr_toNat _ _ ((Nat.div_le_self _ _).trans_lt (BitVec.isLt _))⟩, hrest⟩

/-- VBAT_FILTER: the bound on the accumulator is one on the filtered value, and a sample fits 16 bits (rule R361). -/
theorem filterInv_vbatFilter {s : State} (hw : s.par.wf = true) (h : FilterInv s) : FilterInv (vbatFilter s) := by
  obtain ⟨hi, ⟨hacc, -⟩, ⟨hraw, hsnap⟩, hrest⟩ := h
  have hnew := sat_lowPass_le 32 s.par.vShift s.par.adcVMaxSample _ _ hacc hsnap
  have hfilt := Nat.div_le_of_le_mul ((Nat.mul_comm _ _).symm ▸ hnew)
  exact ⟨hi, ⟨hnew, sat_shr_toNat _ _ (hfilt.trans_lt (adcVMaxSample_of_wf hw))⟩, ⟨hraw, hsnap⟩, hrest⟩

/-- PIN_LATCH holds a voltage sample unchanged (rule R351). -/
theorem filterInv_pinLatch {v : U12} (brake : Bool) {s : State} (hv : v.toNat ≤ s.par.adcVMaxSample) (h : FilterInv s) :
    FilterInv (pinLatch v brake s) := by
  obtain ⟨hi, hacc, ⟨-, hsnap⟩, hrest⟩ := h
  have hwide : (v.setWidth 16).toNat = v.toNat := BitVec.toNat_setWidth_of_le (by decide)
  exact ⟨hi, hacc, ⟨hwide.le.trans hv, hsnap⟩, hrest⟩

/-- TQ_ACQUIRE steps the accumulator in the zeroing window only (rules R281, R289). -/
theorem filterInv_tqAcquire {x : U12} {s : State} (hx : x.toNat ≤ s.par.adcTMaxSample) (h : FilterInv s) :
    FilterInv (tqAcquire x s) := by
  obtain ⟨hi, hv, hraw, hoff, hfoc⟩ := h
  refine ⟨hi, hv, hraw, ?_, hfoc⟩
  simp only [tqAcquire, State.withTq_tq, State.withTq_par]
  split
  · exact sat_lowPass_le 32 _ _ _ _ hoff hx
  · exact hoff

/-- The target of the phase advance is an entry of the arcsine table, or 0 (rule R180). -/
theorem focTarget_le (s : State) : focTarget s ≤ 255 := by
  unfold focTarget
  split
  · exact asinRead_le _ _
  · exact Nat.zero_le _

/-- FOC_UPDATE (rule R184). -/
theorem filterInv_focUpdate {s : State} (h : FilterInv s) : FilterInv (focUpdate s) := by
  obtain ⟨hi, hv, hraw, hoff, hfoc⟩ := h
  exact ⟨hi, hv, hraw, hoff, sat_lowPass_le 16 _ _ _ _ hfoc (focTarget_le s)⟩

/-- The other sub-operations write none of the registers of `FilterInv`. -/
theorem filterInv_subOp (x : SubOp) {s : State} (hw : s.par.wf = true) (ha : x.admitted s) (h : FilterInv s) :
    FilterInv (x.run s) := by
  cases x with
  | reset => exact filterInv_resetWith _ _ _ _
  | ibatFilter i => exact filterInv_ibatFilter ((adcOk_iff _ _).mp ha) h
  | pinLatch v brake => exact filterInv_pinLatch brake ((adcOk_iff _ _).mp ha) h
  | vbatFilter => exact filterInv_vbatFilter hw h
  | tqAcquire q => exact filterInv_tqAcquire ((adcOk_iff _ _).mp ha) h
  | focUpdate => exact filterInv_focUpdate h
  | snapshot =>
    obtain ⟨hi, hv, ⟨hraw, -⟩, hrest⟩ := h
    exact ⟨hi, hv, ⟨hraw, hraw⟩, hrest⟩
  | hallEdge tick hall => exact hallEdge_elim (P := FilterInv) tick hall fun _ => h
  | stallCheck tick => exact stallCheck_elim (P := FilterInv) tick (fun _ _ => h) fun _ => h
  | cmdLatch => exact cmdLatch_elim (P := FilterInv) fun _ _ _ _ _ _ _ => h
  | runPolicy => exact runPolicy_elim (P := FilterInv) fun _ _ _ _ _ => h
  | cruiseIfLatched => exact cruiseIfLatched_elim (P := FilterInv) fun _ _ _ _ _ => h
  | auxBranch a => exact auxBranch_elim (P := FilterInv) a fun _ _ => h
  | pwmGate => exact pwmGate_elim (P := FilterInv) h h fun _ => h
  | _ => exact h

end Sys2Proof.Laws

namespace Sys2Proof.Settled

open Sys2Proof.Laws

/-- Settles O12: every admitted sub-operation keeps `FilterInv`. -/
theorem filterInvKept : Obligations.FilterInvKept := fun _ _ hs hstep =>
  step_keeps (fun _ _ h => h) (fun x _ hw ha h => filterInv_subOp x hw ha h) hs hstep

end Sys2Proof.Settled
end

section
/-! PROOFS. The records stay legal, a tick is open only on a configured block, and the fault and cruise registers keep their ranges
(rules R40, R321, R353, R354, R385, R386). -/

namespace Sys2Proof.Laws

open Sys2Proof.Machine

/-- A command record is legal exactly when it does not carry the reserved function (rules R112, R354). -/
theorem cmdRec_legal_iff (r : CmdRec) : r.legal = true ↔ (r.hasAuxFunction = true → r.auxFunction ≠ .reserved) := by
  cases h : r.hasAuxFunction <;> simp [CmdRec.legal, h]

/-- CFG_LOAD withdraws the one override that could be illegal (rule R353). -/
theorem withdrawOverrides_legal (r : CmdRec) : (withdrawOverrides r).legal = true :=
  (cmdRec_legal_iff _).mpr nofun

/-- A latched optional-ADC function is the new record's or the one held (rule R355). -/
theorem latchRecord_legal {new old : CmdRec} (hn : new.legal = true) (ho : old.legal = true) :
    (latchRecord new old).legal = true := by
  rw [cmdRec_legal_iff] at *
  simp only [latchRecord, Bool.or_eq_true]
  cases hnew : new.hasAuxFunction with
  | true => exact fun _ => hn hnew
  | false => exact fun h => ho (by simpa using h)

/-- The integral of CRUISE stays within its limit (rule R321). -/
theorem cruiseIntegrate_range (p : Params) (m : MotorType) (speed : U16) (a : AssistState) :
    0 ≤ (cruiseIntegrate p m speed a).toInt ∧ (cruiseIntegrate p m speed a).toInt ≤ p.cruiseILimit := by
  have hlimit : (0 : Int) ≤ p.cruiseILimit := Int.natCast_nonneg _
  simp only [cruiseIntegrate, satI32_toInt]
  have hclamp := clampInt_bounds (a.cruiseIntegral.toInt + Int.tdiv (cruiseKi p m * cruiseErr speed a) p.cruiseKiDiv) 0 _ hlimit
  omega

/-- The update of the motor-blocked counters writes nothing else (rules R382, R386). -/
theorem mbUpdate_frame (p : Params) (blocked : Bool) (a : AssistState) :
    mbUpdate p blocked a = { a with mbCnt := (mbUpdate p blocked a).mbCnt, mbCooldown := (mbUpdate p blocked a).mbCooldown } := by
  unfold mbUpdate
  split
  · rfl
  · dsimp only
    generalize (if blocked = true then sat 16 (a.mbCnt.toNat + 1) else 0 : U16) = c
    split <;> rfl

/-- The motor-blocked counters keep their ranges (rules R382, R386). -/
theorem mbUpdate_range (p : Params) (blocked : Bool) {a : AssistState} (hc : a.mbCooldown.toNat ≤ p.mbCooldownTicks) :
    (mbUpdate p blocked a).mbCnt.toNat ≤ p.mbTicks ∧ (mbUpdate p blocked a).mbCooldown.toNat ≤ p.mbCooldownTicks := by
  have hsat := sat_toNat_le 16 p.mbCooldownTicks
  unfold mbUpdate
  split
  · next hne =>
    have hpred := toNat_sub_one hne
    cases blocked with
    | true => exact ⟨Nat.zero_le _, hsat⟩
    | false => exact ⟨Nat.zero_le _, hpred.le.trans (by omega)⟩
  · dsimp only
    generalize (if blocked = true then sat 16 (a.mbCnt.toNat + 1) else 0 : U16) = c
    split
    · exact ⟨Nat.zero_le _, hsat⟩
    · next hlt => exact ⟨(Nat.not_le.mp hlt).le, hc⟩

/-- MOTOR_BLOCKED is reported exactly when its condition holds: it has the lowest code (rules R385, R387). -/
theorem sysOf_eq_motorBlocked_iff (fMb fTq fComm : Bool) : sysOf fMb fTq fComm = .motorBlocked ↔ fMb = true := by
  revert fMb fTq fComm; decide

/-- FAULT_DETECT (rule R386). -/
theorem systemInv_faultDetect {s : State} (h : SystemInv s) : SystemInv (faultDetect s) := by
  obtain ⟨⟨hcfg, hin, hcmd⟩, htick, ⟨-, hcool, -⟩, hint⟩ := h
  obtain ⟨hcnt', hcool'⟩ := mbUpdate_range s.par (blockedNow s) hcool
  have hframe := mbUpdate_frame s.par (blockedNow s) s.asst
  simp only [SystemInv, faultDetect, State.withCtl_asst, State.withCtl_ctl, State.withCtl_par, State.withCtl_cfg,
    State.withCtl_cmdIn, State.withCtl_cmd, State.withAsst_asst, State.withAsst_par, State.withAsst_cfg, State.withAsst_cmdIn,
    State.withAsst_cmd, sysOf_eq_motorBlocked_iff, decide_eq_true_eq]
  generalize mbUpdate s.par (blockedNow s) s.asst = a at *
  rw [hframe]
  exact ⟨⟨hcfg, hin, hcmd⟩, htick, ⟨hcnt', hcool', by simp [BitVec.toNat_eq]⟩, hint⟩

/-- A policy leaves an integral in range (rules R320, R321). -/
theorem systemInv_policyWrites {s : State} (active : Bool) (target : U16) {integral : BitVec 32} (tgt : Targets)
    (hfrom : IntegralFrom s integral) (h : SystemInv s) : SystemInv (policyWrites s active target integral tgt) := by
  obtain ⟨hrec, htick, hmb, hint⟩ := h
  refine ⟨hrec, htick, hmb, ?_⟩
  rcases hfrom with rfl | ⟨m, speed, a, rfl⟩
  · exact hint
  · exact cruiseIntegrate_range s.par m speed a

/-- The other sub-operations write none of the registers of `SystemInv`. -/
theorem systemInv_subOp (x : SubOp) {s : State} (ha : x.admitted s) (h : SystemInv s) : SystemInv (x.run s) := by
  obtain ⟨⟨hcfg, hin, hcmd⟩, htick, hrest⟩ := id h
  cases x with
  | reset => exact systemInv_resetWith _ _ _ _
  | cfgLoad r => exact ⟨⟨fun _ => ha, hin, withdrawOverrides_legal s.cmd⟩, fun _ => rfl, hrest⟩
  | cmdRx r => exact ⟨⟨hcfg, ha, hcmd⟩, htick, hrest⟩
  | openTick => exact ⟨⟨hcfg, hin, hcmd⟩, fun _ => ha, hrest⟩
  | closeTick => exact ⟨⟨hcfg, hin, hcmd⟩, nofun, hrest⟩
  | cmdLatch =>
    refine cmdLatch_elim (P := SystemInv) fun _ _ _ _ cmd _ hfrom => ⟨⟨hcfg, hin, ?_⟩, htick, hrest⟩
    rcases hfrom with rfl | rfl
    · exact hcmd
    · exact latchRecord_legal hin hcmd
  | faultDetect => exact systemInv_faultDetect h
  | runPolicy => exact runPolicy_elim (P := SystemInv) fun _ _ _ _ hfrom => systemInv_policyWrites _ _ _ hfrom h
  | cruiseIfLatched =>
    exact cruiseIfLatched_elim (P := SystemInv) fun _ _ _ _ hfrom => systemInv_policyWrites _ _ _ hfrom h
  | hallEdge tick hall => exact hallEdge_elim (P := SystemInv) tick hall fun _ => h
  | stallCheck tick => exact stallCheck_elim (P := SystemInv) tick (fun _ _ => h) fun _ => h
  | auxBranch a => exact auxBranch_elim (P := SystemInv) a fun _ _ => h
  | pwmGate => exact pwmGate_elim (P := SystemInv) h h fun _ => h
  | _ => exact h

end Sys2Proof.Laws

namespace Sys2Proof.Settled

open Sys2Proof.Laws

/-- Settles O13: every admitted sub-operation keeps `SystemInv`. -/
theorem systemInvKept : Obligations.SystemInvKept := fun _ _ hs hstep =>
  step_keeps (fun _ _ h => h) (fun x _ _ ha h => systemInv_subOp x ha h) hs hstep

end Sys2Proof.Settled
end

section
/-! PROOFS. Each agent writes its own registers, and another's only as rule R22 lists (rules R20 to R23, R101): the frame of every
sub-operation, and how the frames compose over a run. -/

namespace Sys2Proof.Laws

open Sys2Proof.Machine

/-- A reflexive and transitive relation that every sub-operation of a run keeps to holds between the ends of the run. -/
theorem SubRun.related {R : State → State → Prop} (hrefl : ∀ s, R s s) (htrans : ∀ {s t u}, R s t → R t u → R s u)
    {l : List SubOp} {s t : State} (h : SubRun l s t) (hx : ∀ x ∈ l, ∀ u, R u (x.run u)) : R s t :=
  h.keeps (P := R s) (fun x hmem u _ hu => htrans hu (hx x hmem u)) (hrefl s)

/-! ### HALL -/

/-- Frames of HALL compose. -/
theorem hallKeeps_trans {s t u : State} (hst : hallKeeps s t) (htu : hallKeeps t u) : hallKeeps s u := by
  unfold hallKeeps at *
  exact htu.trans (by rw [hst])

/-- A write of the rotor registers without `erps` is HALL's (rule R23). -/
theorem hallKeeps_withRotor {s : State} {v : RotorState} (h : v.erps = s.rotor.erps) : hallKeeps s (s.withRotor v) := by
  unfold hallKeeps
  rw [← h]; rfl

/-- An accepted transition leaves `erps` (rules R136, R137). -/
theorem hallRevolution_erps (p : Params) (tick : U16) (k : Fin 6) (r0 r : RotorState) :
    (hallRevolution p tick k r0 r).erps = r.erps := by
  unfold hallRevolution
  split
  · split <;> rfl
  · rfl

theorem hallKeeps_subOp {x : SubOp} (hx : x.agent = .hall) (s : State) : hallKeeps s (x.run s) := by
  cases x with
  | hallEdge tick hall =>
    show hallKeeps s (hallEdge tick hall s)
    rcases hallEdge_cases tick hall s with he | ⟨k, -, -, he⟩ <;> rw [he]
    · rfl
    · exact hallKeeps_withRotor (hallRevolution_erps s.par tick k s.rotor _)
  | _ => cases hx

/-! ### PWM -/

/-- Frames of PWM compose: a stall that was declared stays declared. -/
theorem pwmKeeps_trans {s t u : State} (hst : pwmKeeps s t) (htu : pwmKeeps t u) : pwmKeeps s u := by
  obtain ⟨hframe, hrotor⟩ := hst
  obtain ⟨hframe', hrotor'⟩ := htu
  refine ⟨hframe'.trans (by rw [hframe]), ?_⟩
  have hpar : t.par = s.par := by rw [hframe]
  rcases hrotor' with ⟨hmode, hrev, hvalid, hfoc⟩ | hstall
  · rwa [hmode, hrev, hvalid, hfoc]
  · rw [hpar] at hstall
    exact .inr hstall

/-- CAD_STEP leaves the two cadence registers of MAIN (rules R21, R30). -/
theorem cadStep_frame (p : Params) (pas : U2) (c : CadenceState) :
    (cadRun (cadTransition p pas c)).cadStopMinAdj = c.cadStopMinAdj
      ∧ (cadRun (cadTransition p pas c)).cadenceRpm = c.cadenceRpm := by
  have run : ∀ c : CadenceState, (cadRun c).cadStopMinAdj = c.cadStopMinAdj ∧ (cadRun c).cadenceRpm = c.cadenceRpm := fun c => by
    simp only [cadRun]
    split
    · exact ⟨rfl, rfl⟩
    · split <;> exact ⟨rfl, rfl⟩
  have forward : (cadForward p pas c).cadStopMinAdj = c.cadStopMinAdj ∧ (cadForward p pas c).cadenceRpm = c.cadenceRpm := by
    simp only [cadForward]
    split
    · exact ⟨rfl, rfl⟩
    · split
      · exact ⟨rfl, rfl⟩
      · split <;> exact ⟨rfl, rfl⟩
  rw [(run _).1, (run _).2]
  unfold cadTransition
  split
  · exact ⟨rfl, rfl⟩
  · exact forward
  · exact ⟨rfl, rfl⟩

/-- WHL_STEP leaves the wheel speed, which is MAIN's (rules R21, R31). -/
theorem whlStep_frame (p : Params) (pin : Bool) (w : WheelState) :
    (whlRun p (whlEdge p pin w)).wheelSpeedX10 = w.wheelSpeedX10 := by
  have run : ∀ w : WheelState, (whlRun p w).wheelSpeedX10 = w.wheelSpeedX10 := fun w => by
    unfold whlRun
    split
    · rfl
    · split <;> rfl
  have rising : ∀ w : WheelState, (whlRising p w).wheelSpeedX10 = w.wheelSpeedX10 := fun w => by
    unfold whlRising
    split
    · rfl
    · split <;> rfl
  rw [run]
  unfold whlEdge
  split
  · rfl
  · split
    · exact rising _
    · rfl

/-- A write of PWM's drive registers (rules R21, R27). -/
theorem pwmKeeps_withDrive {s : State} {d : DriveState} (h : RampFrame s.drive d) : pwmKeeps s (s.withDrive d) :=
  ⟨congrArg s.withDrive h, .inl ⟨rfl, rfl, rfl, rfl⟩⟩

/-- A write of PWM's cadence registers (rules R21, R30). -/
theorem pwmKeeps_withCad {s : State} {c : CadenceState}
    (h : c.cadStopMinAdj = s.cad.cadStopMinAdj ∧ c.cadenceRpm = s.cad.cadenceRpm) : pwmKeeps s (s.withCad c) := by
  refine ⟨?_, .inl ⟨rfl, rfl, rfl, rfl⟩⟩
  rw [← h.1, ← h.2]; rfl

/-- A write of PWM's wheel registers (rules R21, R31). -/
theorem pwmKeeps_withWhl {s : State} {w : WheelState} (h : w.wheelSpeedX10 = s.whl.wheelSpeedX10) :
    pwmKeeps s (s.withWhl w) := by
  refine ⟨?_, .inl ⟨rfl, rfl, rfl, rfl⟩⟩
  rw [← h]; rfl

/-- STALL_CHECK writes the four registers of rule R22 (a) on a stall, the other sub-operations PWM's own. -/
theorem pwmKeeps_subOp {x : SubOp} (hx : x.agent = .pwm) (s : State) : pwmKeeps s (x.run s) := by
  cases x with
  | stallCheck tick =>
    exact stallCheck_elim (P := pwmKeeps s) tick (fun _ _ => ⟨rfl, .inr ⟨rfl, sat_toNat 16 _, rfl, rfl⟩⟩)
      fun _ => ⟨rfl, .inl ⟨rfl, rfl, rfl, rfl⟩⟩
  | cadStep pas => exact pwmKeeps_withCad (cadStep_frame s.par pas s.cad)
  | whlStep whl => exact pwmKeeps_withWhl (whlStep_frame s.par whl s.whl)
  | rampStep => exact pwmKeeps_withDrive (rampFrame_rampStep s)
  | ibatFilter | pinLatch | erpsDerive | interp | svmSynth | cmpCommit | endFalling => exact ⟨rfl, .inl ⟨rfl, rfl, rfl, rfl⟩⟩
  | _ => cases hx

/-! ### MAIN -/

/-- The output enable and the drive registers of PWM are the same (rules R21, R22 (b)). -/
def SameDuty (s t : State) : Prop :=
  t.out.pwmEnabled = s.out.pwmEnabled ∧ t.drive.duty = s.drive.duty ∧ t.drive.fwAngle = s.drive.fwAngle
  ∧ t.drive.rampUpCnt = s.drive.rampUpCnt ∧ t.drive.rampDownCnt = s.drive.rampDownCnt

/-- What every sub-operation of MAIN but PWM_GATE keeps to. -/
def mainStays (s t : State) : Prop := mainKeeps s t ∧ SameDuty s t

/-- A frame of MAIN after which nothing of PWM's is written. -/
theorem mainKeeps_trans_stays {s t u : State} (hst : mainKeeps s t) (htu : mainStays t u) : mainKeeps s u := by
  obtain ⟨hframe, hdrive⟩ := hst
  obtain ⟨⟨hframe', -⟩, hon, hduty, hfw, hup, hdown⟩ := htu
  refine ⟨hframe'.trans (by rw [hframe]), ?_⟩
  rwa [hon, hduty, hfw, hup, hdown]

/-- A frame of MAIN before which nothing of PWM's is written. -/
theorem mainStays_trans_keeps {s t u : State} (hst : mainStays s t) (htu : mainKeeps t u) : mainKeeps s u := by
  obtain ⟨⟨hframe, -⟩, hon, hduty, hfw, hup, hdown⟩ := hst
  obtain ⟨hframe', hdrive⟩ := htu
  have hpar : t.par = s.par := by rw [hframe]
  refine ⟨hframe'.trans (by rw [hframe]), ?_⟩
  rwa [hon, hduty, hfw, hup, hdown, hpar] at hdrive

theorem mainStays_refl (s : State) : mainStays s s := ⟨⟨rfl, .inl ⟨rfl, rfl, rfl, rfl⟩⟩, rfl, rfl, rfl, rfl, rfl⟩

theorem mainStays_trans {s t u : State} (hst : mainStays s t) (htu : mainStays t u) : mainStays s u := by
  refine ⟨mainKeeps_trans_stays hst.1 htu, ?_⟩
  obtain ⟨-, hon, hduty, hfw, hup, hdown⟩ := hst
  obtain ⟨-, hon', hduty', hfw', hup', hdown'⟩ := htu
  exact ⟨hon'.trans hon, hduty'.trans hduty, hfw'.trans hfw, hup'.trans hup, hdown'.trans hdown⟩

/-- FAULT_DETECT leaves `cfg_valid`, which is ENV's (rules R21, R33). -/
theorem mainStays_faultDetect (s : State) : mainStays s (faultDetect s) := by
  refine ⟨⟨?_, .inl ⟨rfl, rfl, rfl, rfl⟩⟩, rfl, rfl, rfl, rfl, rfl⟩
  have hvalid : (mbUpdate s.par (blockedNow s) s.asst).cfgValid = s.asst.cfgValid := by rw [mbUpdate_frame]
  rw [← hvalid]; rfl

/-- A sub-operation of MAIN other than PWM_GATE. -/
theorem mainStays_subOp {x : SubOp} (hx : x.agent = .main) (hgate : x ≠ .pwmGate) (s : State) : mainStays s (x.run s) := by
  cases x with
  | pwmGate => exact absurd rfl hgate
  | faultDetect => exact mainStays_faultDetect s
  | cmdLatch =>
    exact cmdLatch_elim (P := mainStays s) fun _ _ _ _ _ _ _ => ⟨⟨rfl, .inl ⟨rfl, rfl, rfl, rfl⟩⟩, rfl, rfl, rfl, rfl, rfl⟩
  | runPolicy =>
    exact runPolicy_elim (P := mainStays s) fun _ _ _ _ _ => ⟨⟨rfl, .inl ⟨rfl, rfl, rfl, rfl⟩⟩, rfl, rfl, rfl, rfl, rfl⟩
  | cruiseIfLatched =>
    exact cruiseIfLatched_elim (P := mainStays s) fun _ _ _ _ _ => ⟨⟨rfl, .inl ⟨rfl, rfl, rfl, rfl⟩⟩, rfl, rfl, rfl, rfl, rfl⟩
  | auxBranch a =>
    exact auxBranch_elim (P := mainStays s) a fun _ _ => ⟨⟨rfl, .inl ⟨rfl, rfl, rfl, rfl⟩⟩, rfl, rfl, rfl, rfl, rfl⟩
  | openTick | snapshot | vbatFilter | whlSpeed | cadRpm | tqAcquire | latchMode | fwBonus | speedLimit | globalCaps | focUpdate
  | telemetryStage | sysSelects | publish | closeTick | endTick =>
    exact ⟨⟨rfl, .inl ⟨rfl, rfl, rfl, rfl⟩⟩, rfl, rfl, rfl, rfl, rfl⟩
  | _ => cases hx

/-- PWM_GATE writes the four registers of rule R22 (b) exactly on a re-enable. -/
theorem mainKeeps_pwmGate (s : State) : mainKeeps s (pwmGate s) :=
  pwmGate_elim (P := mainKeeps s) ⟨rfl, .inl ⟨rfl, rfl, rfl, rfl⟩⟩ ⟨rfl, .inl ⟨rfl, rfl, rfl, rfl⟩⟩ fun hoff =>
    ⟨rfl, .inr ⟨hoff, rfl, rfl, rfl, rfl, sat_toNat 8 _⟩⟩

/-- PWM_GATE runs by itself and in TICK_END, once (rule R103). -/
theorem pwmGate_mem_subOps {i : Instr} (h : SubOp.pwmGate ∈ subOps i) : i = .pwmGate ∨ i = .tickEnd := by
  cases i with
  | pwmGate => exact .inl rfl
  | tickEnd => exact .inr rfl
  | _ => simp [subOps] at h

/-- A run of MAIN has at most one PWM_GATE, so a re-enable is seen from both ends of it. -/
theorem mainKeeps_of_run {i : Instr} {s t : State} (ha : agentOf i = some .main) (h : SubRun (subOps i) s t) : mainKeeps s t := by
  by_cases hgate : SubOp.pwmGate ∈ subOps i
  · rcases pwmGate_mem_subOps hgate with rfl | rfl
    · obtain ⟨-, rfl⟩ := h
      exact mainKeeps_pwmGate s
    · obtain ⟨-, -, -, rfl⟩ := h
      have publish := mainStays_subOp (x := .publish) rfl nofun s
      exact mainKeeps_trans_stays (mainStays_trans_keeps publish (mainKeeps_pwmGate _))
        (mainStays_subOp (x := .closeTick) rfl nofun _)
  · have stays : mainStays s t :=
      h.related (R := mainStays) mainStays_refl mainStays_trans fun x hmem u =>
        mainStays_subOp (Option.some.inj ((agentOf_of_mem_subOps hmem).symm.trans ha)) (fun hx => hgate (hx ▸ hmem)) u
    exact stays.1

/-! ### ENV -/

/-- Frames of ENV compose. -/
theorem envKeeps_trans {s t u : State} (hst : envKeeps s t) (htu : envKeeps t u) : envKeeps s u := by
  unfold envKeeps at *
  exact htu.trans (by rw [hst])

theorem envKeeps_subOp {x : SubOp} (hx : x.agent = .env) (hreset : x ≠ .reset) (s : State) : envKeeps s (x.run s) := by
  cases x with
  | reset => exact absurd rfl hreset
  | cfgLoad | cmdRx => rfl
  | _ => cases hx

/-- RESET is part of no other instruction. -/
theorem reset_mem_subOps {i : Instr} (h : SubOp.reset ∈ subOps i) : i = .reset := by
  cases i with
  | reset => rfl
  | _ => simp [subOps] at h

/-! ### All agents -/

/-- An instruction other than RESET keeps to the frame of its agent (rules R21, R22). -/
theorem agentKeeps_of_exec {i : Instr} {a : Agent} {s t : State} (hreset : i ≠ .reset) (ha : agentOf i = some a)
    (h : exec i s = .next t) : agentKeeps a s t := by
  have hrun := subRun_of_exec h
  have agent : ∀ x ∈ subOps i, x.agent = a := fun x hmem => Option.some.inj ((agentOf_of_mem_subOps hmem).symm.trans ha)
  cases a with
  | hall => exact hrun.related (R := hallKeeps) (fun _ => rfl) hallKeeps_trans fun x hmem => hallKeeps_subOp (agent x hmem)
  | pwm =>
    exact hrun.related (R := pwmKeeps) (fun _ => ⟨rfl, .inl ⟨rfl, rfl, rfl, rfl⟩⟩) pwmKeeps_trans fun x hmem =>
      pwmKeeps_subOp (agent x hmem)
  | main => exact mainKeeps_of_run ha hrun
  | env =>
    exact hrun.related (R := envKeeps) (fun _ => rfl) envKeeps_trans fun x hmem =>
      envKeeps_subOp (agent x hmem) fun hx => hreset (reset_mem_subOps (hx ▸ hmem))

end Sys2Proof.Laws

namespace Sys2Proof.Settled

open Sys2Proof.Laws

/-- Settles O15: the Agent column of rule R101, and the frame of every instruction but RESET. -/
theorem agentsWriteTheirOwn : Obligations.AgentsWriteTheirOwn :=
  ⟨⟨rfl, fun _ => rfl, fun _ => rfl, fun _ _ => rfl, fun _ _ _ _ _ => rfl, fun _ => rfl, fun _ _ => rfl, rfl⟩,
    fun _ _ _ _ => agentKeeps_of_exec⟩

end Sys2Proof.Settled
end

section
/-! PROOFS. Which operations alone change the captured rotor registers, the commutation mode, the system state and the parameters
(rules R24 (i) and (ii), R37, R70). The frames of the agents settle most of it; the mode also needs when it changes. -/

namespace Sys2Proof.Laws

open Sys2Proof.Machine

/-! ### The captured registers -/

/-- The rotor registers a Hall edge captures (rules R24 (i), R135). -/
def SameCapture (r r' : RotorState) : Prop :=
  r'.sectorAngle = r.sectorAngle ∧ r'.sectorOffset = r.sectorOffset ∧ r'.hallRefTick = r.hallRefTick
  ∧ r'.revRefTick = r.revRefTick ∧ r'.calTicks = r.calTicks ∧ r'.hallLast = r.hallLast ∧ r'.sector = r.sector

/-- PWM leaves what a Hall edge captures. -/
theorem sameCapture_of_pwmKeeps {s t : State} (h : pwmKeeps s t) : SameCapture s.rotor t.rotor := by
  rw [h.1]
  exact ⟨rfl, rfl, rfl, rfl, rfl, rfl, rfl⟩

/-- MAIN and ENV leave the whole rotor state (rule R21). -/
theorem rotor_of_exec {i : Instr} {a : Agent} {s t : State} (hreset : i ≠ .reset) (ha : agentOf i = some a)
    (hm : a = .main ∨ a = .env) (h : exec i s = .next t) : t.rotor = s.rotor := by
  have hkeeps := agentKeeps_of_exec hreset ha h
  rcases hm with rfl | rfl
  · exact (congrArg State.rotor hkeeps.1 :)
  · exact (congrArg State.rotor (show envKeeps s t from hkeeps) :)

/-- Rule R24 (i): without a Hall edge nothing is captured. -/
theorem sameCapture_of_exec {i : Instr} {s t : State} (hreset : i ≠ .reset) (h : exec i s = .next t)
    (hhall : agentOf i ≠ some .hall) : SameCapture s.rotor t.rotor := by
  obtain ⟨a, ha⟩ := agentOf_of_next h
  have same : t.rotor = s.rotor → SameCapture s.rotor t.rotor := fun he => by
    rw [he]; exact ⟨rfl, rfl, rfl, rfl, rfl, rfl, rfl⟩
  cases a with
  | hall => exact absurd ha hhall
  | pwm => exact sameCapture_of_pwmKeeps (agentKeeps_of_exec hreset ha h)
  | main => exact same (rotor_of_exec hreset ha (.inl rfl) h)
  | env => exact same (rotor_of_exec hreset ha (.inr rfl) h)

/-! ### The commutation mode -/

/-- An instruction of HALL is one Hall edge. -/
theorem subOps_of_hall {i : Instr} (ha : agentOf i = some .hall) : ∃ tick hall, subOps i = [.hallEdge tick hall] := by
  cases i with
  | hallEdge tick hall => exact ⟨tick, hall, rfl⟩
  | hallS0 tick | hallS1 tick | hallS2 tick | hallS3 tick | hallS4 tick | hallS5 tick | hallInv0 tick | hallInv7 tick =>
    exact ⟨tick, _, rfl⟩
  | _ => cases ha

/-- A Hall edge leaves the mode, or makes it INTERPOLATED on entering REV_SECTOR with a valid reference (rules R24 (ii), R137). -/
theorem hallEdge_commMode (tick : U16) (hall : U3) (s : State) :
    (hallEdge tick hall s).rotor.commMode = s.rotor.commMode
      ∨ (hallEdge tick hall s).rotor.commMode = .interpolated
        ∧ (hallEdge tick hall s).rotor.sector.val = s.par.revSector ∧ s.rotor.revRefValid = true := by
  rcases hallEdge_cases tick hall s with he | ⟨k, -, -, he⟩ <;> rw [he]
  · exact .inl rfl
  · rw [State.withRotor_rotor]
    rcases hallRevolution_cases s.par tick k s.rotor (hallCapture s.cfg tick hall k s.rotor) with
      hr | ⟨hk, -, -, hsector, hmode | ⟨hvalid, hmode⟩⟩
    · rw [hr]; exact .inl rfl
    · exact .inl hmode
    · exact .inr ⟨hmode, by rw [hsector]; exact hk, hvalid⟩

/-- The same of an instruction of HALL. -/
theorem commMode_of_hall {i : Instr} {s t : State} (ha : agentOf i = some .hall) (h : exec i s = .next t) :
    t.rotor.commMode = s.rotor.commMode
      ∨ t.rotor.commMode = .interpolated ∧ t.rotor.sector.val = s.par.revSector ∧ s.rotor.revRefValid = true := by
  obtain ⟨tick, hall, hops⟩ := subOps_of_hall ha
  have hrun := subRun_of_exec h
  rw [hops] at hrun
  obtain ⟨-, rfl⟩ := hrun
  exact hallEdge_commMode tick hall s

/-- The mode is the one of `s`, or a STALL_CHECK of `l` sees a stall there (rule R140). -/
def ModeOrStall (l : List SubOp) (s u : State) : Prop :=
  u.rotor.commMode = s.rotor.commMode
    ∨ ∃ tick, SubOp.stallCheck tick ∈ l ∧ s.par.stallTicks < (tick - s.rotor.hallRefTick).toNat

/-- A run of PWM leaves the mode, or has a STALL_CHECK that sees a stall: what it compares with, the run does not write. -/
theorem SubRun.commMode_of_pwm {l : List SubOp} {s t : State} (hl : ∀ x ∈ l, x.agent = .pwm) (h : SubRun l s t) :
    ModeOrStall l s t := by
  have run : (t.par = s.par ∧ t.rotor.hallRefTick = s.rotor.hallRefTick) ∧ ModeOrStall l s t := by
    refine h.keeps (P := fun u => (u.par = s.par ∧ u.rotor.hallRefTick = s.rotor.hallRefTick) ∧ ModeOrStall l s u)
      (fun x hmem u _ hu => ?_) ⟨⟨rfl, rfl⟩, .inl rfl⟩
    obtain ⟨⟨hpar, href⟩, hmode⟩ := hu
    have hx := hl x hmem
    obtain ⟨-, -, href', -⟩ := sameCapture_of_pwmKeeps (pwmKeeps_subOp hx u)
    refine ⟨⟨(x.run_par u).trans hpar, href'.trans href⟩, ?_⟩
    cases x with
    | stallCheck tick =>
      refine stallCheck_elim (P := ModeOrStall l s) tick (fun hstall _ => .inr ⟨tick, hmem, ?_⟩) fun _ => hmode
      rwa [hpar, href] at hstall
    | ibatFilter | pinLatch | cadStep | whlStep | rampStep | erpsDerive | interp | svmSynth | cmpCommit | endFalling => exact hmode
    | _ => cases hx
  exact run.2

/-- STALL_CHECK runs by itself and in PWM_FALLING (rule R103). -/
theorem stallCheck_mem_subOps {i : Instr} {tick : U16} (h : SubOp.stallCheck tick ∈ subOps i) :
    i = .pwmFalling tick ∨ i = .stallCheck tick := by
  cases i with
  | pwmFalling tick' => left; simpa [subOps, eq_comm] using h
  | stallCheck tick' => right; simpa [subOps, eq_comm] using h
  | _ => simp [subOps] at h

/-- Rule R24 (ii): the mode becomes INTERPOLATED only in a Hall edge. -/
theorem interpolated_only_by_hall {i : Instr} {s t : State} (hreset : i ≠ .reset) (h : exec i s = .next t)
    (hs : s.rotor.commMode = .blocked) (ht : t.rotor.commMode = .interpolated) :
    agentOf i = some .hall ∧ t.rotor.sector.val = s.par.revSector ∧ s.rotor.revRefValid = true := by
  obtain ⟨a, ha⟩ := agentOf_of_next h
  have changed : t.rotor.commMode ≠ s.rotor.commMode := by rw [hs, ht]; nofun
  cases a with
  | hall => exact ⟨ha, ((commMode_of_hall ha h).resolve_left changed).2⟩
  | pwm =>
    rcases (agentKeeps_of_exec hreset ha h).2 with ⟨hmode, -⟩ | ⟨hmode, -⟩
    · exact absurd hmode changed
    · cases ht.symm.trans hmode
  | main => exact absurd (congrArg _ (rotor_of_exec hreset ha (.inl rfl) h)) changed
  | env => exact absurd (congrArg _ (rotor_of_exec hreset ha (.inr rfl) h)) changed

/-- Rule R24 (ii): the mode becomes BLOCKED only on a stall. -/
theorem blocked_only_on_stall {i : Instr} {s t : State} (hreset : i ≠ .reset) (h : exec i s = .next t)
    (hs : s.rotor.commMode = .interpolated) (ht : t.rotor.commMode = .blocked) :
    ∃ tick : U16, (i = .pwmFalling tick ∨ i = .stallCheck tick) ∧ s.par.stallTicks < (tick - s.rotor.hallRefTick).toNat := by
  obtain ⟨a, ha⟩ := agentOf_of_next h
  have changed : t.rotor.commMode ≠ s.rotor.commMode := by rw [hs, ht]; nofun
  cases a with
  | hall => cases ht.symm.trans ((commMode_of_hall ha h).resolve_left changed).1
  | pwm =>
    have agent : ∀ x ∈ subOps i, x.agent = .pwm := fun x hmem => Option.some.inj ((agentOf_of_mem_subOps hmem).symm.trans ha)
    have hmode := (subRun_of_exec h).commMode_of_pwm agent
    obtain ⟨tick, hmem, hstall⟩ := hmode.resolve_left changed
    exact ⟨tick, stallCheck_mem_subOps hmem, hstall⟩
  | main => exact absurd (congrArg _ (rotor_of_exec hreset ha (.inl rfl) h)) changed
  | env => exact absurd (congrArg _ (rotor_of_exec hreset ha (.inr rfl) h)) changed

/-! ### The parameters and the system state -/

/-- Rule R70: no instruction writes the parameter set. -/
theorem par_of_exec {i : Instr} {s t : State} (h : exec i s = .next t) : t.par = s.par :=
  (subRun_of_exec h).keeps (P := fun u => u.par = s.par) (fun x _ u _ hu => (x.run_par u).trans hu) rfl

/-- Only RESET and FAULT_DETECT write the system state (rule R37). -/
theorem SubOp.run_systemState {x : SubOp} (hreset : x ≠ .reset) (hfault : x ≠ .faultDetect) (s : State) :
    (x.run s).ctl.systemState = s.ctl.systemState := by
  cases x with
  | reset => exact absurd rfl hreset
  | faultDetect => exact absurd rfl hfault
  | hallEdge tick hall => exact hallEdge_elim (P := fun t => t.ctl.systemState = s.ctl.systemState) tick hall fun _ => rfl
  | stallCheck tick =>
    exact stallCheck_elim (P := fun t => t.ctl.systemState = s.ctl.systemState) tick (fun _ _ => rfl) fun _ => rfl
  | cmdLatch => exact cmdLatch_elim (P := fun t => t.ctl.systemState = s.ctl.systemState) fun _ _ _ _ _ _ _ => rfl
  | runPolicy => exact runPolicy_elim (P := fun t => t.ctl.systemState = s.ctl.systemState) fun _ _ _ _ _ => rfl
  | cruiseIfLatched =>
    exact cruiseIfLatched_elim (P := fun t => t.ctl.systemState = s.ctl.systemState) fun _ _ _ _ _ => rfl
  | auxBranch a => exact auxBranch_elim (P := fun t => t.ctl.systemState = s.ctl.systemState) a fun _ _ => rfl
  | pwmGate => exact pwmGate_elim (P := fun t => t.ctl.systemState = s.ctl.systemState) rfl rfl fun _ => rfl
  | _ => rfl

/-- FAULT_DETECT runs by itself and in TICK_BEGIN (rule R103). -/
theorem faultDetect_mem_subOps {i : Instr} (h : SubOp.faultDetect ∈ subOps i) :
    i = .faultDetect ∨ ∃ x q, i = .tickBegin x q := by
  cases i with
  | faultDetect => exact .inl rfl
  | tickBegin x q => exact .inr ⟨x, q, rfl⟩
  | _ => simp [subOps] at h

/-- Rule R37. -/
theorem systemState_of_exec {i : Instr} {s t : State} (h : exec i s = .next t) (hreset : i ≠ .reset) (hfault : i ≠ .faultDetect)
    (htick : ∀ x q, i ≠ .tickBegin x q) : t.ctl.systemState = s.ctl.systemState := by
  refine (subRun_of_exec h).keeps (P := fun u => u.ctl.systemState = s.ctl.systemState) (fun x hmem u _ hu => ?_) rfl
  refine (SubOp.run_systemState (fun hx => hreset (reset_mem_subOps (hx ▸ hmem))) (fun hx => ?_) u).trans hu
  rcases faultDetect_mem_subOps (hx ▸ hmem) with hi | ⟨a, q, hi⟩
  · exact hfault hi
  · exact htick a q hi

end Sys2Proof.Laws

namespace Sys2Proof.Settled

open Sys2Proof.Laws

/-- Settles O16: the clauses of rule R24, then rules R70 and R37. -/
theorem registerWriters : Obligations.RegisterWriters :=
  ⟨fun _ _ _ hreset h =>
    ⟨sameCapture_of_exec hreset h, interpolated_only_by_hall hreset h, blocked_only_on_stall hreset h⟩,
    fun _ _ _ h => ⟨par_of_exec h, fun ⟨hreset, hfault, htick⟩ => systemState_of_exec h hreset hfault htick⟩⟩

end Sys2Proof.Settled
end

section
/-! PROOFS. POST_PROCESS and the rows of format AUXF (rules R41, R112, R327, R328, R331, R332, R336): each branch of the optional-ADC
function once, and the speed limit after it. -/

namespace Sys2Proof.Laws

open Sys2Proof.Machine

/-! ### The branches -/

section Branches

variable {s : State} {x : U12}

/-- No function, or the reserved one, which no legal record carries: neither branch runs (rule R327, log entry 11). -/
theorem auxBranch_of_unused (h : effAuxFunction s = .noFunction ∨ effAuxFunction s = .reserved) :
    auxBranch x s = s.withAsst { s.asst with auxValue := 0 } := by
  rcases h with h | h <;> simp only [auxBranch, h]

/-- THROTTLE (rule R328). -/
theorem auxBranch_of_throttle (h : effAuxFunction s = .throttle) :
    auxBranch x s
      = (s.withAsst { s.asst with auxValue := sat 16 (linMap x.toNat s.par.thrAdcMin s.par.thrAdcMax 0 255) }).withTgt
        (throttleTargets s.par (iCap s) s.whl.wheelSpeedX10.toNat x.toNat s.tgt) := by
  simp only [auxBranch, h]

/-- TEMPERATURE (rule R332). -/
theorem auxBranch_of_temperature (h : effAuxFunction s = .temperature) :
    auxBranch x s
      = (s.withAsst { s.asst with auxValue := sat 16 (tempFromAdc s.par x.toNat) }).withTgt
        { s.tgt with i := temperatureCurrent s.cfg (tempFromAdc s.par x.toNat) s.tgt.i } := by
  simp only [auxBranch, h]

/-- The mapped sample of the throttle fits `aux_value` (rule R328). -/
theorem throttle_auxValue (h : effAuxFunction s = .throttle) :
    (auxBranch x s).asst.auxValue.toNat = linMap x.toNat s.par.thrAdcMin s.par.thrAdcMax 0 255 := by
  have hmap := (linMap_bounds x.toNat s.par.thrAdcMin s.par.thrAdcMax 0 255).2
  rw [auxBranch_of_throttle h]
  exact sat_toNat_of_lt 16 _ (by omega)

/-- A throttle that asks for no more than the policy leaves its targets (rule R328). -/
theorem throttle_tgt_of_le (h : effAuxFunction s = .throttle)
    (hle : linMap x.toNat s.par.thrAdcMin s.par.thrAdcMax 0 (iCap s) ≤ s.work.tgt.i) : (auxBranch x s).work.tgt = s.work.tgt := by
  rw [auxBranch_of_throttle h]
  exact if_neg (Nat.not_lt.mpr hle)

/-- A throttle that asks for more overrides all four targets (rule R328). -/
theorem throttle_tgt_of_lt (h : effAuxFunction s = .throttle)
    (hlt : s.work.tgt.i < linMap x.toNat s.par.thrAdcMin s.par.thrAdcMax 0 (iCap s)) :
    (auxBranch x s).work.tgt =
      { i := linMap x.toNat s.par.thrAdcMin s.par.thrAdcMax 0 (iCap s)
        dutyTgt := s.par.dutyMax
        up := linMap s.whl.wheelSpeedX10.toNat s.par.thrSpeedLo s.par.thrSpeedHi s.par.thrRampUpLo s.par.thrRampUpHi
        down := s.par.thrRampDown } := by
  rw [auxBranch_of_throttle h]
  exact if_pos hlt

/-- The temperature saturates in `aux_value` (rules R332, R445, log entry 8). -/
theorem temperature_auxValue (h : effAuxFunction s = .temperature) :
    (auxBranch x s).asst.auxValue.toNat = min (tempFromAdc s.par x.toNat) 65535 := by
  rw [auxBranch_of_temperature h]
  exact sat_toNat 16 _

/-- Misconfigured temperature limits allow no current (rule R332). -/
theorem temperature_tgt_of_misconfigured (h : effAuxFunction s = .temperature) (hle : s.cfg.tempMax.toNat ≤ s.cfg.tempMin.toNat) :
    (auxBranch x s).work.tgt = { s.work.tgt with i := 0 } := by
  have hzero : temperatureCurrent s.cfg (tempFromAdc s.par x.toNat) s.tgt.i = 0 := if_pos hle
  rw [auxBranch_of_temperature h, hzero]; rfl

/-- Between the limits the current falls to 0 (rule R332). -/
theorem temperature_tgt_of_range (h : effAuxFunction s = .temperature) (hlt : s.cfg.tempMin.toNat < s.cfg.tempMax.toNat) :
    (auxBranch x s).work.tgt =
      { s.work.tgt with
        i := linMap (tempFromAdc s.par x.toNat) s.cfg.tempMin.toNat s.cfg.tempMax.toNat s.work.tgt.i 0 } := by
  have hmap : temperatureCurrent s.cfg (tempFromAdc s.par x.toNat) s.tgt.i
      = linMap (tempFromAdc s.par x.toNat) s.cfg.tempMin.toNat s.cfg.tempMax.toNat s.tgt.i 0 := if_neg (Nat.not_le.mpr hlt)
  rw [auxBranch_of_temperature h, hmap]; rfl

end Branches

/-- The reference temperature is the sample, at most 255 (rule R331). -/
theorem tempFromAdc_of_reference {p : Params} (h : p.tempFromAdc = .reference) (sample : Nat) :
    tempFromAdc p sample = min sample 255 := by
  simp only [tempFromAdc, h, tempFromAdcRef]

/-! ### The speed limit -/

/-- A speed limit of at most 50 compares in tenths (rule R336). -/
theorem speedLimitCurrent_of_le {m : Nat} (p : Params) (h : m ≤ 50) (speed i : Nat) :
    speedLimitCurrent p m speed i = linMap speed ((m - p.speedWin) * 10) ((m + p.speedWin) * 10) i 0 :=
  if_pos h

/-- One above 50 compares in whole units (rule R336). -/
theorem speedLimitCurrent_of_gt {m : Nat} (p : Params) (h : 50 < m) (speed i : Nat) :
    speedLimitCurrent p m speed i = linMap (speed / 10) (m - p.speedWin) (m + p.speedWin) i 0 :=
  if_neg (Nat.not_le.mpr h)

/-- The speed limit after a branch reads what the branch has left (rules R327, R336). -/
theorem postProcess_tgt (x : U12) (s : State) :
    (postProcess x s).work.tgt =
      { (auxBranch x s).work.tgt with
        i := speedLimitCurrent s.par (effSpeedMax s) s.whl.wheelSpeedX10.toNat (auxBranch x s).work.tgt.i } :=
  auxBranch_elim (P := fun u => (speedLimit u).work.tgt =
    { u.work.tgt with i := speedLimitCurrent s.par (effSpeedMax s) s.whl.wheelSpeedX10.toNat u.work.tgt.i }) x fun _ _ => rfl

/-- POST_PROCESS writes `aux_value` and the targets (rule R327). -/
theorem postProcess_frame (x : U12) (s : State) :
    postProcess x s = { s with
      asst := { s.asst with auxValue := (postProcess x s).asst.auxValue }
      work := { s.work with tgt := (postProcess x s).work.tgt } } :=
  auxBranch_elim (P := fun u => speedLimit u = { s with
    asst := { s.asst with auxValue := (speedLimit u).asst.auxValue }
    work := { s.work with tgt := (speedLimit u).work.tgt } }) x fun _ _ => rfl

/-! ### The rows -/

/-- A guarded step whose condition holds completes. -/
theorem guarded_of_true {ok : Bool} (r : Refusal) (s : State) (h : ok = true) : guarded ok r s = .next s := by
  simp [guarded, h]

/-- POST_PROCESS completes on a sample within its maximum. -/
theorem exec_postProcess {x : U12} {s : State} (hx : x.toNat ≤ s.par.adcAuxMaxSample) :
    exec (.postProcess x) s = .next (postProcess x s) :=
  guarded_of_true _ _ ((adcOk_iff _ _).mpr hx)

section Rows

variable {s : State} {x : U12} (hx : x.toNat ≤ s.par.adcAuxMaxSample)
include hx

/-- AUXF.THROTTLE on a sample within its maximum is guarded by the function alone (log entry 2). -/
theorem exec_auxfThrottle :
    exec (.auxfThrottle x) s = guarded (decide (effAuxFunction s = .throttle)) .codeNotHeld (auxBranch x s) :=
  if_pos ((adcOk_iff _ _).mpr hx)

/-- So is AUXF.TEMPERATURE. -/
theorem exec_auxfTemperature :
    exec (.auxfTemperature x) s = guarded (decide (effAuxFunction s = .temperature)) .codeNotHeld (auxBranch x s) :=
  if_pos ((adcOk_iff _ _).mpr hx)

end Rows

/-- A row of another function than the effective one is refused (log entry 2). -/
theorem auxRow_of_not_held {f : AuxFunction} {s : State} (u : State) (h : effAuxFunction s ≠ f) :
    guarded (decide (effAuxFunction s = f)) .codeNotHeld u = .refused .codeNotHeld :=
  guarded_of_false _ _ (decide_eq_false h)

/-- The row of the effective function completes. -/
theorem auxRow_of_held {f : AuxFunction} {s : State} (u : State) (h : effAuxFunction s = f) :
    guarded (decide (effAuxFunction s = f)) .codeNotHeld u = .next u :=
  guarded_of_true _ _ (decide_eq_true h)

end Sys2Proof.Laws

namespace Sys2Proof.Settled

open Sys2Proof.Laws Sys2Proof.Machine

/-- Settles O46: `mid` is what the branch leaves of the targets. -/
theorem postProcess : Obligations.PostProcess := by
  intro s x f cap _ hx hf _ hcap
  obtain rfl : f = effAuxFunction s := hf
  obtain rfl : cap = iCap s := hcap
  refine ⟨Machine.postProcess x s, exec_postProcess hx, postProcess_frame x s, fun h => tempFromAdc_of_reference h _,
    (auxBranch x s).work.tgt, fun h => ?_, fun h => ⟨throttle_auxValue h, throttle_tgt_of_le h, throttle_tgt_of_lt h⟩,
    fun h => ⟨temperature_auxValue h, temperature_tgt_of_misconfigured h, temperature_tgt_of_range h⟩,
    effSpeedMax s, rfl, fun hm => ?_, fun hm => ?_⟩
  · have hbranch : auxBranch x s = _ := auxBranch_of_unused (.inl h)
    exact ⟨congrArg (·.asst.auxValue) hbranch, congrArg (·.work.tgt) hbranch⟩
  · rw [postProcess_tgt, speedLimitCurrent_of_le s.par hm]
  · rw [postProcess_tgt, speedLimitCurrent_of_gt s.par hm]

/-- Settles O47: the row of the effective function completes with its branch, the other two are refused. -/
theorem auxRows : Obligations.AuxRows := by
  intro s x f cap _ hx hf hcap
  obtain rfl : f = effAuxFunction s := hf
  obtain rfl : cap = iCap s := hcap
  refine ⟨fun h => ?_, fun h => ?_, fun h => ?_, auxRow_of_not_held _,
    fun h => (exec_auxfThrottle hx).trans (auxRow_of_not_held _ h),
    fun h => (exec_auxfTemperature hx).trans (auxRow_of_not_held _ h)⟩
  · exact (auxRow_of_held _ h).trans (congrArg _ (auxBranch_of_unused (.inl h)))
  · refine ⟨auxBranch x s, (exec_auxfThrottle hx).trans (auxRow_of_held _ h), ?_, throttle_auxValue h, throttle_tgt_of_le h,
      throttle_tgt_of_lt h⟩
    rw [auxBranch_of_throttle h]; rfl
  · refine ⟨auxBranch x s, (exec_auxfTemperature hx).trans (auxRow_of_held _ h), ?_, temperature_auxValue h,
      fun hr => tempFromAdc_of_reference hr _, fun hle => congrArg Targets.i (temperature_tgt_of_misconfigured h hle),
      fun hlt => congrArg Targets.i (temperature_tgt_of_range h hlt)⟩
    rw [auxBranch_of_temperature h]; rfl

end Sys2Proof.Settled
end

section
/-! PROOFS. The table reads (rules R70, R74, R87): a read depends on its index only through the clamp, an index in range is its own
clamp, and within range the fixtures have the entries of `95_test_vectors.md` section 1.1. -/

namespace Sys2Proof.Laws

open Sys2Proof.Machine

/-! ### The waveform table, whose index wraps -/

theorem svmRead_given (v : Vector U8 256) (idx : U8) : svmRead (.given v) idx = (v[idx.toNat]'idx.isLt).toNat := rfl

theorem svmTest_of_rising {i : Nat} (h : i ≤ 64) : svmTest i = 107 + i := if_pos h

theorem svmTest_of_falling {i : Nat} (h : 64 < i) (h' : i ≤ 192) : svmTest i = 107 + 128 - i :=
  (if_neg (Nat.not_le.mpr h)).trans (if_pos h')

theorem svmTest_of_returning {i : Nat} (h : 192 < i) : svmTest i = 107 + i - 256 :=
  (if_neg (by omega)).trans (if_neg (Nat.not_le.mpr h))

/-! ### The arcsine table -/

/-- The read sees its index through the clamp alone. -/
theorem asinRead_congr (t : AsinTable) {a b : Nat} (h : min a 127 = min b 127) : asinRead t a = asinRead t b := by
  cases t <;> simp only [asinRead, h]

theorem asinRead_given (v : Vector U8 128) {a : Nat} (h : a < 128) : asinRead (.given v) a = v[a].toNat := by
  have hclamp : min a 127 = a := by omega
  simp only [asinRead, hclamp] <;> rfl

theorem asinRead_given_of_le (v : Vector U8 128) {a : Nat} (h : 128 ≤ a) : asinRead (.given v) a = v[127].toNat :=
  (asinRead_congr _ (by omega : min a 127 = min 127 127)).trans (asinRead_given v (by decide))

theorem asinRead_fixture {a : Nat} (h : a < 128) : asinRead .fixture a = a / 2 :=
  congrArg asinTest (by omega : min a 127 = a)

/-! ### The eMTB curves -/

/-- The read sees the curve and the position through their clamps alone. -/
theorem emtbRead_congr (t : EmtbTable) {c d p q : Nat} (hc : min c 9 = min d 9) (hp : min p 240 = min q 240) :
    emtbRead t c p = emtbRead t d q := by
  cases t <;> simp only [emtbRead, hc, hp]

theorem emtbRead_given (v : Vector (Vector U16 241) 10) {c p : Nat} (hc : c < 10) (hp : p < 241) :
    emtbRead (.given v) c p = v[c][p].toNat := by
  have hcurve : min c 9 = c := by omega
  have hpos : min p 240 = p := by omega
  simp only [emtbRead, hcurve, hpos] <;> rfl

theorem emtbRead_fixture {c p : Nat} (hc : c < 10) (hp : p < 241) : emtbRead .fixture c p = p * p * (c + 1) / 5760 :=
  congrArg₂ emtbTest (by omega : min c 9 = c) (by omega : min p 240 = p)

end Sys2Proof.Laws

namespace Sys2Proof.Settled

open Sys2Proof.Laws Sys2Proof.Machine

/-- Settles O59: the given tables, then the clamped indices, then the fixtures. -/
theorem tableReads : Obligations.TableReads := by
  refine ⟨svmRead_given, fun v _ => asinRead_given v, fun v _ => asinRead_given_of_le v, fun v _ _ => emtbRead_given v,
    fun t c p hc => ?curve, fun t c p hp => ?position, fun idx => ?waveform, fun _ => asinRead_fixture,
    fun _ hc _ => emtbRead_fixture hc⟩
  case curve => exact emtbRead_congr t (by omega : min c 9 = min 9 9) rfl
  case position => exact emtbRead_congr t rfl (by omega : min p 240 = min 240 240)
  case waveform => exact ⟨svmTest_of_rising, svmTest_of_falling, svmTest_of_returning⟩

end Sys2Proof.Settled
end

section
/-! PROOFS. Decoding and encoding are inverse to each other (rules R101 to R106, R109 to R113, R117). Words are read as numbers: a field
is a quotient and a remainder, a word is the sum of its fields at their places, and a mask says which fields are zero. -/

namespace Sys2Proof.Laws

open Sys2Proof.Machine

/-! ### Fields of a word -/

/-- A field as a number. -/
theorem field_toNat (w : U32) (lo n : Nat) : (field w lo n).toNat = w.toNat / 2 ^ lo % 2 ^ n := by
  rw [field, BitVec.extractLsb'_toNat, Nat.shiftRight_eq_div_pow]

/-- A field is known by its number. -/
theorem field_eq {w : U32} {lo n : Nat} {v : BitVec n} (h : w.toNat / 2 ^ lo % 2 ^ n = v.toNat) : field w lo n = v :=
  BitVec.eq_of_toNat_eq ((field_toNat w lo n).trans h)

/-- One bit of a word as a number. -/
theorem getLsbD_toNat (w : U32) (k : Nat) : (w.getLsbD k).toNat = w.toNat / 2 ^ k % 2 := by
  rw [BitVec.getLsbD, Nat.testBit_eq_decide_div_mod_eq]
  rcases Nat.mod_two_eq_zero_or_one (w.toNat / 2 ^ k) with h | h <;> simp [h]

/-- One bit of a word is known by its number. -/
theorem getLsbD_eq {w : U32} {k : Nat} {b : Bool} (h : w.toNat / 2 ^ k % 2 = b.toNat) : w.getLsbD k = b := by
  rw [← getLsbD_toNat] at h
  cases hw : w.getLsbD k <;> cases b <;> simp_all

/-- A concatenation as a number. -/
theorem append_toNat {m n : Nat} (x : BitVec m) (y : BitVec n) : (x ++ y).toNat = x.toNat * 2 ^ n + y.toNat := by
  rw [BitVec.toNat_append, ← Nat.shiftLeft_add_eq_or_of_lt y.isLt, Nat.shiftLeft_eq]

/-- A one-bit field as a number. -/
theorem bit_toNat (b : Bool) : (bit b).toNat = b.toNat := BitVec.toNat_ofBool b

/-- A field is zero when all of its bits are. -/
theorem zeroField_iff (w : U32) (lo n : Nat) :
    w.toNat / 2 ^ lo % 2 ^ n = 0 ↔ ∀ k, lo ≤ k → k < lo + n → w.getLsbD k = false := by
  rw [← field_toNat, ← BitVec.toNat_zero (w := n), BitVec.toNat_inj]
  constructor
  · intro h k hlo hk
    have hbit : (field w lo n).getLsbD (k - lo) = false := by rw [h, BitVec.getLsbD_zero]
    rw [field, BitVec.getLsbD_extractLsb'] at hbit
    simpa [show k - lo < n by omega, show lo + (k - lo) = k by omega] using hbit
  · intro h
    refine BitVec.eq_of_getLsbD_eq fun k hk => ?_
    rw [field, BitVec.getLsbD_extractLsb', h (lo + k) (by omega) (by omega)]
    simp

/-- A word has no bit outside a mask when each of its bits is the mask's as well. -/
theorem onlyBits_iff (mask w : U32) : onlyBits mask w = true ↔ ∀ k : Fin 32, mask.getLsbD k = false → w.getLsbD k = false := by
  rw [onlyBits, decide_eq_true_iff]
  constructor
  · intro h k hm
    have hbit : (w &&& ~~~mask).getLsbD k = false := by rw [h]; exact BitVec.getLsbD_zero
    rw [BitVec.getLsbD_and, BitVec.getLsbD_not, hm] at hbit
    simpa [k.isLt] using hbit
  · intro h
    refine BitVec.eq_of_getLsbD_eq fun k hk => ?_
    have hbit := h ⟨k, hk⟩
    cases hm : mask.getLsbD k <;> simp_all

/-- A mask that leaves out the fields `gaps` (first bit and width) admits the words in which these are zero. -/
theorem onlyBits_iff_gaps (gaps : List (Nat × Nat)) {mask : U32} (w : U32)
    (hmask : ∀ k : Fin 32, mask.getLsbD k = false ↔ ∃ g ∈ gaps, g.1 ≤ k ∧ k < g.1 + g.2) :
    onlyBits mask w = true ↔ ∀ g ∈ gaps, w.toNat / 2 ^ g.1 % 2 ^ g.2 = 0 := by
  simp only [onlyBits_iff, zeroField_iff, hmask]
  constructor
  · intro h g hg k hlo hk
    rcases Nat.lt_or_ge k 32 with h32 | h32
    · exact h ⟨k, h32⟩ ⟨g, hg, hlo, hk⟩
    · exact BitVec.getLsbD_of_ge w k h32
  · rintro h k ⟨g, hg, hlo, hk⟩
    exact h g hg k hlo hk

/-! ### The masks of the table, by the fields they require to be zero -/

theorem onlyBits_code_iff (w : U32) : onlyBits 0xF0000000 w = true ↔ w.toNat % 2 ^ 28 = 0 := by
  simpa using onlyBits_iff_gaps [(0, 28)] (mask := 0xF0000000) w (by decide)

theorem onlyBits_hallEdge_iff (w : U32) : onlyBits 0xF007FFFF w = true ↔ w.toNat / 2 ^ 19 % 2 ^ 9 = 0 := by
  simpa using onlyBits_iff_gaps [(19, 9)] (mask := 0xF007FFFF) w (by decide)

theorem onlyBits_all (w : U32) : onlyBits 0xFFFFFFFF w = true := by
  simpa using onlyBits_iff_gaps [] (mask := 0xFFFFFFFF) w (by decide)

theorem onlyBits_pwmFalling_iff (w : U32) : onlyBits 0xF000FFFF w = true ↔ w.toNat / 2 ^ 16 % 2 ^ 12 = 0 := by
  simpa using onlyBits_iff_gaps [(16, 12)] (mask := 0xF000FFFF) w (by decide)

theorem onlyBits_tickBegin_iff (w : U32) : onlyBits 0xF0FFFFFF w = true ↔ w.toNat / 2 ^ 24 % 2 ^ 4 = 0 := by
  simpa using onlyBits_iff_gaps [(24, 4)] (mask := 0xF0FFFFFF) w (by decide)

theorem onlyBits_ibat_iff (w : U32) :
    onlyBits 0x0000FFF0 w = true ↔ w.toNat % 2 ^ 4 = 0 ∧ w.toNat / 2 ^ 16 % 2 ^ 16 = 0 := by
  simpa using onlyBits_iff_gaps [(0, 4), (16, 16)] (mask := 0x0000FFF0) w (by decide)

theorem onlyBits_pins_iff (w : U32) :
    onlyBits 0x0FFF0008 w = true ↔ w.toNat % 2 ^ 3 = 0 ∧ w.toNat / 2 ^ 4 % 2 ^ 12 = 0 ∧ w.toNat / 2 ^ 28 % 2 ^ 4 = 0 := by
  simpa using onlyBits_iff_gaps [(0, 3), (4, 12), (28, 4)] (mask := 0x0FFF0008) w (by decide)

theorem onlyBits_pas_iff (w : U32) : onlyBits 0x00000003 w = true ↔ w.toNat / 2 ^ 2 % 2 ^ 30 = 0 := by
  simpa using onlyBits_iff_gaps [(2, 30)] (mask := 0x00000003) w (by decide)

theorem onlyBits_whl_iff (w : U32) : onlyBits 0x00000004 w = true ↔ w.toNat % 2 ^ 2 = 0 ∧ w.toNat / 2 ^ 3 % 2 ^ 29 = 0 := by
  simpa using onlyBits_iff_gaps [(0, 2), (3, 29)] (mask := 0x00000004) w (by decide)

theorem onlyBits_none_iff (w : U32) : onlyBits 0 w = true ↔ w.toNat % 2 ^ 32 = 0 := by
  simpa using onlyBits_iff_gaps [(0, 32)] (mask := 0) w (by decide)

theorem onlyBits_tick_iff (w : U32) : onlyBits 0x0000FFFF w = true ↔ w.toNat / 2 ^ 16 % 2 ^ 16 = 0 := by
  simpa using onlyBits_iff_gaps [(16, 16)] (mask := 0x0000FFFF) w (by decide)

theorem onlyBits_torque_iff (w : U32) : onlyBits 0x00000FFF w = true ↔ w.toNat / 2 ^ 12 % 2 ^ 20 = 0 := by
  simpa using onlyBits_iff_gaps [(12, 20)] (mask := 0x00000FFF) w (by decide)

theorem onlyBits_aux_iff (w : U32) :
    onlyBits 0x00FFF000 w = true ↔ w.toNat % 2 ^ 12 = 0 ∧ w.toNat / 2 ^ 24 % 2 ^ 8 = 0 := by
  simpa using onlyBits_iff_gaps [(0, 12), (24, 8)] (mask := 0x00FFF000) w (by decide)

/-! ### The words of the encoder, as sums of their fields -/

theorem hallEdgeWord_toNat (t : U16) (h : U3) :
    (0x3#4 ++ 0#9 ++ h ++ t : U32).toNat = 3 * 2 ^ 28 + h.toNat * 2 ^ 16 + t.toNat := by
  simp only [append_toNat, BitVec.toNat_ofNat]; omega

theorem pwmRisingWord_toNat (v i : U12) (b w : Bool) (p : U2) :
    (0x4#4 ++ v ++ i ++ bit b ++ bit w ++ p : U32).toNat
      = 4 * 2 ^ 28 + v.toNat * 2 ^ 16 + i.toNat * 2 ^ 4 + b.toNat * 2 ^ 3 + w.toNat * 2 ^ 2 + p.toNat := by
  simp only [append_toNat, BitVec.toNat_ofNat, bit_toNat]; omega

theorem pwmFallingWord_toNat (t : U16) : (0x5#4 ++ 0#12 ++ t : U32).toNat = 5 * 2 ^ 28 + t.toNat := by
  simp only [append_toNat, BitVec.toNat_ofNat]; omega

theorem tickBeginWord_toNat (x q : U12) :
    (0x6#4 ++ 0#4 ++ x ++ q : U32).toNat = 6 * 2 ^ 28 + x.toNat * 2 ^ 12 + q.toNat := by
  simp only [append_toNat, BitVec.toNat_ofNat]; omega

theorem evReservedWord_toNat (low : BitVec 31) : (1#1 ++ low : U32).toNat = 2 ^ 31 + low.toNat := by
  simp only [append_toNat, BitVec.toNat_ofNat]; omega

theorem ibatWord_toNat (i : U12) : (0#16 ++ i ++ 0#4 : U32).toNat = i.toNat * 2 ^ 4 := by
  simp only [append_toNat, BitVec.toNat_ofNat]; omega

theorem pinsWord_toNat (v : U12) (b : Bool) :
    (0#4 ++ v ++ 0#12 ++ bit b ++ 0#3 : U32).toNat = v.toNat * 2 ^ 16 + b.toNat * 2 ^ 3 := by
  simp only [append_toNat, BitVec.toNat_ofNat, bit_toNat]; omega

theorem pasWord_toNat (p : U2) : (0#30 ++ p : U32).toNat = p.toNat := by
  simp only [append_toNat, BitVec.toNat_ofNat]; omega

theorem whlWord_toNat (b : Bool) : (0#29 ++ bit b ++ 0#2 : U32).toNat = b.toNat * 2 ^ 2 := by
  simp only [append_toNat, BitVec.toNat_ofNat, bit_toNat]; omega

theorem torqueWord_toNat (q : U12) : (0#20 ++ q : U32).toNat = q.toNat := by
  simp only [append_toNat, BitVec.toNat_ofNat]; omega

theorem tickBits_toNat (t : U16) : (tickBits t).toNat = t.toNat := by
  simp only [tickBits, append_toNat, BitVec.toNat_ofNat]; omega

theorem auxBits_toNat (x : U12) : (auxBits x).toNat = x.toNat * 2 ^ 12 := by
  simp only [auxBits, append_toNat, BitVec.toNat_ofNat]; omega

/-! ### Decoding what the encoder writes -/

theorem decodeEvent_hallEdge {w : U32} {t : U16} {h : U3} (hw : w.toNat = 3 * 2 ^ 28 + h.toNat * 2 ^ 16 + t.toNat) :
    decodeEvent w .nothing = .ok (.hallEdge t h) := by
  have hcode : (field w 28 4).toNat = 3 := by rw [field_toNat]; omega
  have hmask : onlyBits 0xF007FFFF w = true := (onlyBits_hallEdge_iff w).mpr (by omega)
  have ht : field w 0 16 = t := field_eq (by omega)
  have hh : field w 16 3 = h := field_eq (by omega)
  simp only [decodeEvent, hcode, decodePlain, decodeOnly, hmask, ht, hh, if_true]

theorem decodeEvent_pwmRising {w : U32} {v i : U12} {b l : Bool} {p : U2}
    (hw : w.toNat = 4 * 2 ^ 28 + v.toNat * 2 ^ 16 + i.toNat * 2 ^ 4 + b.toNat * 2 ^ 3 + l.toNat * 2 ^ 2 + p.toNat) :
    decodeEvent w .nothing = .ok (.pwmRising v i b l p) := by
  have hb1 := b.toNat_le
  have hl1 := l.toNat_le
  have hcode : (field w 28 4).toNat = 4 := by rw [field_toNat]; omega
  have hv : field w 16 12 = v := field_eq (by omega)
  have hi : field w 4 12 = i := field_eq (by omega)
  have hb : w.getLsbD 3 = b := getLsbD_eq (by omega)
  have hl : w.getLsbD 2 = l := getLsbD_eq (by omega)
  have hp : field w 0 2 = p := field_eq (by omega)
  simp only [decodeEvent, hcode, decodePlain, decodeOnly, onlyBits_all, hv, hi, hb, hl, hp, if_true]

theorem decodeEvent_pwmFalling {w : U32} {t : U16} (hw : w.toNat = 5 * 2 ^ 28 + t.toNat) :
    decodeEvent w .nothing = .ok (.pwmFalling t) := by
  have hcode : (field w 28 4).toNat = 5 := by rw [field_toNat]; omega
  have hmask : onlyBits 0xF000FFFF w = true := (onlyBits_pwmFalling_iff w).mpr (by omega)
  have ht : field w 0 16 = t := field_eq (by omega)
  simp only [decodeEvent, hcode, decodePlain, decodeOnly, hmask, ht, if_true]

theorem decodeEvent_tickBegin {w : U32} {x q : U12} (hw : w.toNat = 6 * 2 ^ 28 + x.toNat * 2 ^ 12 + q.toNat) :
    decodeEvent w .nothing = .ok (.tickBegin x q) := by
  have hcode : (field w 28 4).toNat = 6 := by rw [field_toNat]; omega
  have hmask : onlyBits 0xF0FFFFFF w = true := (onlyBits_tickBegin_iff w).mpr (by omega)
  have hx : field w 12 12 = x := field_eq (by omega)
  have hq : field w 0 12 = q := field_eq (by omega)
  simp only [decodeEvent, hcode, decodePlain, decodeOnly, hmask, hx, hq, if_true]

/-- Codes 8 to 15 are the reserved row (rule R117). -/
theorem decodeEvent_of_reserved {w : U32} (att : Attachment) (hw : 8 ≤ (field w 28 4).toNat) :
    decodeEvent w att = decodePlain 0xFFFFFFFF w att (.evReserved (field w 0 31)) := by
  unfold decodeEvent
  split
  case h_9 => rfl
  all_goals omega

theorem decodeEvent_evReserved {w : U32} {low : BitVec 31} (hw : w.toNat = 2 ^ 31 + low.toNat) :
    decodeEvent w .nothing = .ok (.evReserved low) := by
  have hlow : field w 0 31 = low := field_eq (by omega)
  rw [decodeEvent_of_reserved .nothing (by rw [field_toNat]; omega), hlow]
  simp only [decodePlain, decodeOnly, onlyBits_all, if_true]

/-- A row is read as the instruction whose operands its word holds. -/
theorem decodeOnly_eq {mask w : U32} {i j : Instr} (hmask : onlyBits mask w = true) (hi : i = j) :
    decodeOnly mask w i = .ok j := by
  rw [decodeOnly, if_pos hmask, hi]

/-- The operand `tick`, alone in its word. -/
theorem decodeOnly_tick (f : U16 → Instr) (t : U16) :
    decodeOnly 0x0000FFFF (tickBits t) (f (field (tickBits t) 0 16)) = .ok (f t) := by
  have hw := tickBits_toNat t
  exact decodeOnly_eq ((onlyBits_tick_iff _).mpr (by omega)) (congrArg f (field_eq (by omega)))

/-- The operand `adc_aux`, alone in its word. -/
theorem decodeOnly_aux (f : U12 → Instr) (x : U12) :
    decodeOnly 0x00FFF000 (auxBits x) (f (field (auxBits x) 12 12)) = .ok (f x) := by
  have hw := auxBits_toNat x
  exact decodeOnly_eq ((onlyBits_aux_iff _).mpr (by omega)) (congrArg f (field_eq (by omega)))

theorem decode_encode_ibatFilter (i : U12) : decode (encode (.ibatFilter i)) = .ok (.ibatFilter i) := by
  have hw := ibatWord_toNat i
  exact decodeOnly_eq ((onlyBits_ibat_iff _).mpr (by omega)) (congrArg _ (field_eq (by omega)))

theorem decode_encode_pinLatch (v : U12) (b : Bool) : decode (encode (.pinLatch v b)) = .ok (.pinLatch v b) := by
  have hw := pinsWord_toNat v b
  have hb := b.toNat_le
  exact decodeOnly_eq ((onlyBits_pins_iff _).mpr (by omega)) (congrArg₂ _ (field_eq (by omega)) (getLsbD_eq (by omega)))

theorem decode_encode_cadStep (p : U2) : decode (encode (.cadStep p)) = .ok (.cadStep p) := by
  have hw := pasWord_toNat p
  exact decodeOnly_eq ((onlyBits_pas_iff _).mpr (by omega)) (congrArg _ (field_eq (by omega)))

theorem decode_encode_whlStep (b : Bool) : decode (encode (.whlStep b)) = .ok (.whlStep b) := by
  have hw := whlWord_toNat b
  have hb := b.toNat_le
  exact decodeOnly_eq ((onlyBits_whl_iff _).mpr (by omega)) (congrArg _ (getLsbD_eq (by omega)))

theorem decode_encode_tqAcquire (q : U12) : decode (encode (.tqAcquire q)) = .ok (.tqAcquire q) := by
  have hw := torqueWord_toNat q
  exact decodeOnly_eq ((onlyBits_torque_iff _).mpr (by omega)) (congrArg _ (field_eq (by omega)))

/-- Codes 6 to 255 are the reserved riding mode (rule R118). -/
theorem decodeMode_of_reserved {c : U8} (w : U32) (hc : 6 ≤ c.toNat) : decodeMode c w = decodeOnly 0 w (.modeReserved c) := by
  unfold decodeMode
  split
  case h_7 => rfl
  all_goals omega

/-- An instruction is read back from its item. -/
theorem decode_encode {i : Instr} (hi : i.encodable = true) : decode (encode i) = .ok i := by
  cases i with
  | hallEdge t h => exact decodeEvent_hallEdge (hallEdgeWord_toNat t h)
  | pwmRising v i b w p => exact decodeEvent_pwmRising (pwmRisingWord_toNat v i b w p)
  | pwmFalling t => exact decodeEvent_pwmFalling (pwmFallingWord_toNat t)
  | tickBegin x q => exact decodeEvent_tickBegin (tickBeginWord_toNat x q)
  | evReserved low => exact decodeEvent_evReserved (evReservedWord_toNat low)
  | ibatFilter i => exact decode_encode_ibatFilter i
  | pinLatch v b => exact decode_encode_pinLatch v b
  | cadStep p => exact decode_encode_cadStep p
  | whlStep b => exact decode_encode_whlStep b
  | tqAcquire q => exact decode_encode_tqAcquire q
  | stallCheck t | hallS0 t | hallS1 t | hallS2 t | hallS3 t | hallS4 t | hallS5 t | hallInv0 t | hallInv7 t =>
    exact decodeOnly_tick _ t
  | postProcess x | telemetryStage x | auxfThrottle x | auxfTemperature x => exact decodeOnly_aux _ x
  | modeReserved c => exact decodeMode_of_reserved 0 (of_decide_eq_true hi)
  | _ => rfl

/-! ### Encoding what the decoder reads -/

/-- A word read under a mask has no bit outside it. -/
theorem decodeOnly_ok_iff (mask w : U32) (i j : Instr) : decodeOnly mask w i = .ok j ↔ onlyBits mask w = true ∧ i = j := by
  unfold decodeOnly
  split <;> simp [*]

/-- Neither a word with a record nor one with a bit outside the mask is read as an event without a record. -/
theorem decodePlain_ok_iff (mask w : U32) (att : Attachment) (i j : Instr) :
    decodePlain mask w att i = .ok j ↔ att = .nothing ∧ onlyBits mask w = true ∧ i = j := by
  cases att <;> simp [decodePlain, decodeOnly_ok_iff]

theorem decodeCfgLoad_ok_iff (w : U32) (att : Attachment) (j : Instr) :
    decodeCfgLoad w att = .ok j ↔ ∃ r, att = .cfg r ∧ onlyBits 0xF0000000 w = true ∧ .cfgLoad r = j := by
  cases att <;> simp [decodeCfgLoad, decodeOnly_ok_iff]

theorem decodeCmdRx_ok_iff (w : U32) (att : Attachment) (j : Instr) :
    decodeCmdRx w att = .ok j ↔ ∃ r, att = .cmd r ∧ onlyBits 0xF0000000 w = true ∧ .cmdRx r = j := by
  cases att <;> simp [decodeCmdRx, decodeOnly_ok_iff]

/-- A word without operands is its event code. -/
theorem eq_of_code {w u : U32} {c : Nat} (hcode : (field w 28 4).toNat = c) (hmask : onlyBits 0xF0000000 w = true)
    (hu : u.toNat = c * 2 ^ 28) : u = w := by
  rw [field_toNat] at hcode
  rw [onlyBits_code_iff] at hmask
  exact BitVec.eq_of_toNat_eq (by omega)

theorem encode_hallEdge_fields {w : U32} (hcode : (field w 28 4).toNat = 3) (hmask : onlyBits 0xF007FFFF w = true) :
    encode (.hallEdge (field w 0 16) (field w 16 3)) = .event w .nothing := by
  rw [field_toNat] at hcode
  rw [onlyBits_hallEdge_iff] at hmask
  refine congrArg (Input.event · .nothing) (BitVec.eq_of_toNat_eq ?_)
  rw [hallEdgeWord_toNat, field_toNat, field_toNat]; omega

theorem encode_pwmRising_fields {w : U32} (hcode : (field w 28 4).toNat = 4) :
    encode (.pwmRising (field w 16 12) (field w 4 12) (w.getLsbD 3) (w.getLsbD 2) (field w 0 2)) = .event w .nothing := by
  rw [field_toNat] at hcode
  refine congrArg (Input.event · .nothing) (BitVec.eq_of_toNat_eq ?_)
  rw [pwmRisingWord_toNat, field_toNat, field_toNat, field_toNat, getLsbD_toNat, getLsbD_toNat]; omega

theorem encode_pwmFalling_fields {w : U32} (hcode : (field w 28 4).toNat = 5) (hmask : onlyBits 0xF000FFFF w = true) :
    encode (.pwmFalling (field w 0 16)) = .event w .nothing := by
  rw [field_toNat] at hcode
  rw [onlyBits_pwmFalling_iff] at hmask
  refine congrArg (Input.event · .nothing) (BitVec.eq_of_toNat_eq ?_)
  rw [pwmFallingWord_toNat, field_toNat]; omega

theorem encode_tickBegin_fields {w : U32} (hcode : (field w 28 4).toNat = 6) (hmask : onlyBits 0xF0FFFFFF w = true) :
    encode (.tickBegin (field w 12 12) (field w 0 12)) = .event w .nothing := by
  rw [field_toNat] at hcode
  rw [onlyBits_tickBegin_iff] at hmask
  refine congrArg (Input.event · .nothing) (BitVec.eq_of_toNat_eq ?_)
  rw [tickBeginWord_toNat, field_toNat, field_toNat]; omega

theorem encode_evReserved_fields {w : U32} (hcode : 8 ≤ (field w 28 4).toNat) :
    encode (.evReserved (field w 0 31)) = .event w .nothing := by
  rw [field_toNat] at hcode
  refine congrArg (Input.event · .nothing) (BitVec.eq_of_toNat_eq ?_)
  rw [evReservedWord_toNat, field_toNat]; omega

/-- An event word is what the encoder writes for the event it is read as. -/
theorem encode_of_decodeEvent {w : U32} {att : Attachment} {i : Instr} (h : decodeEvent w att = .ok i) :
    i.encodable = true ∧ encode i = .event w att := by
  unfold decodeEvent at h
  split at h
  case h_1 hcode =>
    obtain ⟨rfl, hmask, rfl⟩ := (decodePlain_ok_iff _ _ _ _ _).mp h
    exact ⟨rfl, congrArg (Input.event · .nothing) (eq_of_code hcode hmask rfl)⟩
  case h_2 hcode =>
    obtain ⟨r, rfl, hmask, rfl⟩ := (decodeCfgLoad_ok_iff _ _ _).mp h
    exact ⟨rfl, congrArg (Input.event · (.cfg r)) (eq_of_code hcode hmask rfl)⟩
  case h_3 hcode =>
    obtain ⟨r, rfl, hmask, rfl⟩ := (decodeCmdRx_ok_iff _ _ _).mp h
    exact ⟨rfl, congrArg (Input.event · (.cmd r)) (eq_of_code hcode hmask rfl)⟩
  case h_4 hcode =>
    obtain ⟨rfl, hmask, rfl⟩ := (decodePlain_ok_iff _ _ _ _ _).mp h
    exact ⟨rfl, encode_hallEdge_fields hcode hmask⟩
  case h_5 hcode =>
    obtain ⟨rfl, -, rfl⟩ := (decodePlain_ok_iff _ _ _ _ _).mp h
    exact ⟨rfl, encode_pwmRising_fields hcode⟩
  case h_6 hcode =>
    obtain ⟨rfl, hmask, rfl⟩ := (decodePlain_ok_iff _ _ _ _ _).mp h
    exact ⟨rfl, encode_pwmFalling_fields hcode hmask⟩
  case h_7 hcode =>
    obtain ⟨rfl, hmask, rfl⟩ := (decodePlain_ok_iff _ _ _ _ _).mp h
    exact ⟨rfl, encode_tickBegin_fields hcode hmask⟩
  case h_8 hcode =>
    obtain ⟨rfl, hmask, rfl⟩ := (decodePlain_ok_iff _ _ _ _ _).mp h
    exact ⟨rfl, congrArg (Input.event · .nothing) (eq_of_code hcode hmask rfl)⟩
  case h_9 =>
    obtain ⟨rfl, -, rfl⟩ := (decodePlain_ok_iff _ _ _ _ _).mp h
    -- `split` leaves what the other cases exclude as implications to `False`
    simp only [imp_false] at *
    exact ⟨rfl, encode_evReserved_fields (by omega)⟩

/-! Rows by themselves (log entry 13): a mask admits only the words of its operand. -/

section Rows

variable {w : U32}

theorem ibatWord_field (hmask : onlyBits 0x0000FFF0 w = true) : (0#16 ++ field w 4 12 ++ 0#4 : U32) = w := by
  rw [onlyBits_ibat_iff] at hmask
  refine BitVec.eq_of_toNat_eq ?_
  rw [ibatWord_toNat, field_toNat]; omega

theorem pinsWord_fields (hmask : onlyBits 0x0FFF0008 w = true) :
    (0#4 ++ field w 16 12 ++ 0#12 ++ bit (w.getLsbD 3) ++ 0#3 : U32) = w := by
  rw [onlyBits_pins_iff] at hmask
  refine BitVec.eq_of_toNat_eq ?_
  rw [pinsWord_toNat, field_toNat, getLsbD_toNat]; omega

theorem pasWord_field (hmask : onlyBits 0x00000003 w = true) : (0#30 ++ field w 0 2 : U32) = w := by
  rw [onlyBits_pas_iff] at hmask
  refine BitVec.eq_of_toNat_eq ?_
  rw [pasWord_toNat, field_toNat]; omega

theorem whlWord_field (hmask : onlyBits 0x00000004 w = true) : (0#29 ++ bit (w.getLsbD 2) ++ 0#2 : U32) = w := by
  rw [onlyBits_whl_iff] at hmask
  refine BitVec.eq_of_toNat_eq ?_
  rw [whlWord_toNat, getLsbD_toNat]; omega

theorem torqueWord_field (hmask : onlyBits 0x00000FFF w = true) : (0#20 ++ field w 0 12 : U32) = w := by
  rw [onlyBits_torque_iff] at hmask
  refine BitVec.eq_of_toNat_eq ?_
  rw [torqueWord_toNat, field_toNat]; omega

theorem tickBits_field (hmask : onlyBits 0x0000FFFF w = true) : tickBits (field w 0 16) = w := by
  rw [onlyBits_tick_iff] at hmask
  refine BitVec.eq_of_toNat_eq ?_
  rw [tickBits_toNat, field_toNat]; omega

theorem auxBits_field (hmask : onlyBits 0x00FFF000 w = true) : auxBits (field w 12 12) = w := by
  rw [onlyBits_aux_iff] at hmask
  refine BitVec.eq_of_toNat_eq ?_
  rw [auxBits_toNat, field_toNat]; omega

theorem zero_eq_of_onlyBits (hmask : onlyBits 0 w = true) : 0 = w := by
  rw [onlyBits_none_iff] at hmask
  exact BitVec.eq_of_toNat_eq (show 0 = w.toNat by omega)

variable {fmt : Format} {code c : U8} {mask u : U32} {i j : Instr}

/-- A row is what the encoder writes for the instruction it is read as, when its code is the instruction's and its mask admits only
the instruction's operand word. -/
theorem encode_of_decodeOnly (h : decodeOnly mask w j = .ok i) (henc : j.encodable = true) (hrow : encode j = .row fmt c u)
    (hcode : code.toNat = c.toNat) (hword : onlyBits mask w = true → u = w) :
    i.encodable = true ∧ encode i = .row fmt code w := by
  obtain ⟨hmask, rfl⟩ := (decodeOnly_ok_iff _ _ _ _).mp h
  obtain rfl := hword hmask
  obtain rfl := BitVec.eq_of_toNat_eq hcode
  exact ⟨henc, hrow⟩

/-! One case per row, in the decoder's order: those with an operand first, then the rows without one and the codes of no row. -/

theorem encode_of_decodeSub (h : decodeSub code w = .ok i) : i.encodable = true ∧ encode i = .row .sub code w := by
  unfold decodeSub at h
  split at h
  case h_1 hc => exact encode_of_decodeOnly h rfl rfl hc ibatWord_field
  case h_2 hc => exact encode_of_decodeOnly h rfl rfl hc pinsWord_fields
  case h_3 hc => exact encode_of_decodeOnly h rfl rfl hc pasWord_field
  case h_4 hc => exact encode_of_decodeOnly h rfl rfl hc whlWord_field
  case h_6 hc => exact encode_of_decodeOnly h rfl rfl hc tickBits_field
  case h_16 hc => exact encode_of_decodeOnly h rfl rfl hc torqueWord_field
  case h_19 hc | h_22 hc => exact encode_of_decodeOnly h rfl rfl hc auxBits_field
  case h_25 => cases h
  all_goals next hc => exact encode_of_decodeOnly h rfl rfl hc zero_eq_of_onlyBits

theorem encode_of_decodeHall3 (h : decodeHall3 code w = .ok i) : i.encodable = true ∧ encode i = .row .hall3 code w := by
  unfold decodeHall3 at h
  split at h
  case h_9 => cases h
  all_goals next hc => exact encode_of_decodeOnly h rfl rfl hc tickBits_field

theorem encode_of_decodePas4 (h : decodePas4 code w = .ok i) : i.encodable = true ∧ encode i = .row .pas4 code w := by
  unfold decodePas4 at h
  split at h
  case h_17 => cases h
  all_goals next hc => exact encode_of_decodeOnly h rfl rfl hc zero_eq_of_onlyBits

theorem encode_of_decodeMode (h : decodeMode code w = .ok i) : i.encodable = true ∧ encode i = .row .mode code w := by
  unfold decodeMode at h
  split at h
  case h_7 =>
    simp only [imp_false] at *
    have hc : 6 ≤ code.toNat := by omega
    exact encode_of_decodeOnly h (decide_eq_true hc) rfl rfl zero_eq_of_onlyBits
  all_goals next hc => exact encode_of_decodeOnly h rfl rfl hc zero_eq_of_onlyBits

theorem encode_of_decodeSys (h : decodeSys code w = .ok i) : i.encodable = true ∧ encode i = .row .sys code w := by
  unfold decodeSys at h
  split at h
  case h_5 => cases h
  all_goals next hc => exact encode_of_decodeOnly h rfl rfl hc zero_eq_of_onlyBits

theorem encode_of_decodeCmode (h : decodeCmode code w = .ok i) : i.encodable = true ∧ encode i = .row .cmode code w := by
  unfold decodeCmode at h
  split at h
  case h_3 => cases h
  all_goals next hc => exact encode_of_decodeOnly h rfl rfl hc zero_eq_of_onlyBits

theorem encode_of_decodeAuxf (h : decodeAuxf code w = .ok i) : i.encodable = true ∧ encode i = .row .auxf code w := by
  unfold decodeAuxf at h
  split at h
  case h_2 hc | h_3 hc => exact encode_of_decodeOnly h rfl rfl hc auxBits_field
  case h_5 => cases h
  all_goals next hc => exact encode_of_decodeOnly h rfl rfl hc zero_eq_of_onlyBits

theorem encode_of_decodeMtype (h : decodeMtype code w = .ok i) : i.encodable = true ∧ encode i = .row .mtype code w := by
  unfold decodeMtype at h
  split at h
  case h_3 => cases h
  all_goals next hc => exact encode_of_decodeOnly h rfl rfl hc zero_eq_of_onlyBits

end Rows

/-- An item is what the encoder writes for the instruction it is read as. -/
theorem encode_of_decode {x : Input} {i : Instr} (h : decode x = .ok i) : i.encodable = true ∧ encode i = x := by
  cases x with
  | event w att => exact encode_of_decodeEvent h
  | row fmt code w =>
    cases fmt with
    | sub => exact encode_of_decodeSub h
    | hall3 => exact encode_of_decodeHall3 h
    | pas4 => exact encode_of_decodePas4 h
    | mode => exact encode_of_decodeMode h
    | sys => exact encode_of_decodeSys h
    | cmode => exact encode_of_decodeCmode h
    | auxf => exact encode_of_decodeAuxf h
    | mtype => exact encode_of_decodeMtype h

end Sys2Proof.Laws

namespace Sys2Proof.Settled

open Sys2Proof.Laws

/-- Settles O2: one case per row with an operand; a row without one is read back by evaluation. -/
theorem decodeEncode : Obligations.DecodeEncode := fun _ => decode_encode

/-- Settles O3: one case per event code and per row of each format. -/
theorem encodeDecode : Obligations.EncodeDecode := fun _ _ => encode_of_decode

end Sys2Proof.Settled
end

section
/-! PROOFS. What is no event of the block is refused (rule R117): a word that is read as an event is the one the encoder writes for it, so
its number says which fields it has and which it leaves zero; what is left are the reserved codes and the ADC operands. -/

namespace Sys2Proof.Laws

open Sys2Proof.Machine

/-- An item is refused when every instruction it could carry is. -/
theorem runItem_refused {x : Input} {s : State} (h : ∀ i, encode i = x → ∃ r, exec i s = .refused r) :
    ∃ r, runItem exec x s = .refused r := by
  cases hd : decode x with
  | error r => exact ⟨_, runItem_of_decode_error s hd⟩
  | ok i =>
    rw [runItem_of_decode_ok s hd]
    exact h i (encode_of_decode hd).2

/-- A sample above its maximum is refused. -/
theorem adcOk_eq_false {m : Nat} {v : U12} (h : m < v.toNat) : adcOk m v = false :=
  decide_eq_false (Nat.not_le.mpr h)

/-- PWM_RISING refuses a sample above its maximum (rules R117, R351). -/
theorem exec_pwmRising_of_adc {s : State} {v i : U12} (brake whl : Bool) (pas : U2)
    (h : s.par.adcVMaxSample < v.toNat ∨ s.par.adcIMaxSample < i.toNat) :
    ∃ r, exec (.pwmRising v i brake whl pas) s = .refused r := by
  have hadc : (adcOk s.par.adcVMaxSample v && adcOk s.par.adcIMaxSample i) = false := by
    rcases h with h | h <;> simp [adcOk_eq_false h]
  cases hcfg : s.asst.cfgValid with
  | false => exact ⟨_, exec_pwmRising_of_unconfigured hcfg v i brake whl pas⟩
  | true => exact ⟨_, (if_pos hcfg).trans (guarded_of_false _ _ hadc)⟩

/-- A second TICK_BEGIN is refused while the tick is open (rule R434). -/
theorem exec_tickBegin_of_open {s : State} (x q : U12) (hcfg : s.asst.cfgValid = true) (hopen : s.asst.tickOpen = true) :
    exec (.tickBegin x q) s = .refused .tickAlreadyOpen :=
  (if_pos hcfg).trans (if_pos hopen)

/-- TICK_BEGIN refuses a sample above its maximum (rules R117, R355). -/
theorem exec_tickBegin_of_adc {s : State} {x q : U12}
    (h : s.par.adcAuxMaxSample < x.toNat ∨ s.par.adcTMaxSample < q.toNat) : ∃ r, exec (.tickBegin x q) s = .refused r := by
  have hadc : (adcOk s.par.adcAuxMaxSample x && adcOk s.par.adcTMaxSample q) = false := by
    rcases h with h | h <;> simp [adcOk_eq_false h]
  cases hcfg : s.asst.cfgValid with
  | false => exact ⟨_, exec_tickBegin_of_unconfigured hcfg x q⟩
  | true =>
    cases hopen : s.asst.tickOpen with
    | true => exact ⟨_, exec_tickBegin_of_open x q hcfg hopen⟩
    | false => exact ⟨_, (if_pos hcfg).trans ((if_neg (by simp [hopen])).trans (guarded_of_false _ _ hadc))⟩

/-- Rule R117 on the number of an event word: a reserved code, a field that is not zero where the table of rule R101 says so, a sample
above its maximum. -/
def IllegalWord (p : Params) (w : Nat) : Prop :=
  8 ≤ w / 2 ^ 28
    ∨ ((w / 2 ^ 28 = 0 ∨ w / 2 ^ 28 = 1 ∨ w / 2 ^ 28 = 2 ∨ w / 2 ^ 28 = 7) ∧ w % 2 ^ 28 ≠ 0)
    ∨ (w / 2 ^ 28 = 3 ∧ w % 2 ^ 28 / 2 ^ 19 ≠ 0)
    ∨ (w / 2 ^ 28 = 5 ∧ w % 2 ^ 28 / 2 ^ 16 ≠ 0)
    ∨ (w / 2 ^ 28 = 6 ∧ w % 2 ^ 28 / 2 ^ 24 ≠ 0)
    ∨ (w / 2 ^ 28 = 4 ∧ (p.adcVMaxSample < w / 2 ^ 16 % 2 ^ 12 ∨ p.adcIMaxSample < w / 2 ^ 4 % 2 ^ 12))
    ∨ (w / 2 ^ 28 = 6 ∧ (p.adcAuxMaxSample < w / 2 ^ 12 % 2 ^ 12 ∨ p.adcTMaxSample < w % 2 ^ 12))

/-- The number of a word is that of the event it carries. -/
theorem toNat_of_event_eq {u w : U32} {att att' : Attachment} {n : Nat} (h : Input.event u att = .event w att')
    (hu : u.toNat = n) : w.toNat = n := by
  cases h; exact hu

/-- The event that an illegal word carries, if any, is refused. -/
theorem exec_of_illegalWord {s : State} {w : U32} {att : Attachment} (h : IllegalWord s.par w.toNat) {i : Instr}
    (hi : encode i = .event w att) : ∃ r, exec i s = .refused r := by
  unfold IllegalWord at h
  cases i with
  | evReserved _ => exact ⟨_, rfl⟩
  | reset | cfgLoad _ | cmdRx _ | tickEnd =>
    have hw := toNat_of_event_eq hi rfl
    simp only [BitVec.reduceToNat] at hw
    omega
  | hallEdge t p =>
    have hw := toNat_of_event_eq hi (hallEdgeWord_toNat t p)
    omega
  | pwmFalling t =>
    have hw := toNat_of_event_eq hi (pwmFallingWord_toNat t)
    omega
  | pwmRising v x b l p =>
    have hw := toNat_of_event_eq hi (pwmRisingWord_toNat v x b l p)
    have hb := b.toNat_le
    have hl := l.toNat_le
    have hv : w.toNat / 2 ^ 16 % 2 ^ 12 = v.toNat := by omega
    have hx : w.toNat / 2 ^ 4 % 2 ^ 12 = x.toNat := by omega
    rw [hv, hx] at h
    exact exec_pwmRising_of_adc b l p (by omega)
  | tickBegin x q =>
    have hw := toNat_of_event_eq hi (tickBeginWord_toNat x q)
    have hx : w.toNat / 2 ^ 12 % 2 ^ 12 = x.toNat := by omega
    have hq : w.toNat % 2 ^ 12 = q.toNat := by omega
    rw [hx, hq] at h
    exact exec_tickBegin_of_adc (by omega)
  | _ => cases hi

end Sys2Proof.Laws

namespace Sys2Proof.Settled

open Sys2Proof.Laws Sys2Proof.Machine

/-- Settles O1: the words are read by evaluation. -/
theorem decodeWords : Obligations.DecodeWords :=
  ⟨rfl, rfl, rfl, rfl, rfl, rfl, rfl, rfl, rfl, rfl, rfl, rfl, rfl, rfl⟩

/-- Settles O4: whatever event the word carries is refused. -/
theorem illegalEventsRefused : Obligations.IllegalEventsRefused := by
  intro s w att rest hwf hbox hill
  rw [step_of_inbox_cons hwf hbox]
  exact runItem_refused fun i => exec_of_illegalWord (s := s.withInbox rest) hill

/-- Settles O5: neither row has a condition. -/
theorem reservedRowsStop : Obligations.ReservedRowsStop := ⟨fun _ _ => rfl, fun _ => rfl⟩

end Sys2Proof.Settled
end

section
/-! PROOFS. CMD_LATCH (rules R118, R355, R359, R384): what it does with a command pending and with none. -/

namespace Sys2Proof.Laws

open Sys2Proof.Machine

/-! ### The latched mode -/

/-- Codes 6 to 255 are latched as OFF (rule R118). -/
theorem modeOfCode_of_reserved {c : U8} (hc : 6 ≤ c.toNat) : modeOfCode c = .off := by
  unfold modeOfCode
  split
  case h_7 => rfl
  all_goals omega

/-- Codes 0 to 5 (rule R109). -/
theorem modeOfCode_of_held (c : U8) :
    (c.toNat = 0 → modeOfCode c = .off) ∧ (c.toNat = 1 → modeOfCode c = .powerAssist)
      ∧ (c.toNat = 2 → modeOfCode c = .emtbAssist) ∧ (c.toNat = 3 → modeOfCode c = .walkAssist)
      ∧ (c.toNat = 4 → modeOfCode c = .cruise) ∧ (c.toNat = 5 → modeOfCode c = .motorCalibration) := by
  refine ⟨?_, ?_, ?_, ?_, ?_, ?_⟩ <;> intro h <;> simp only [modeOfCode, h]

/-! ### The latched record -/

section Optional

variable {α : Type} {present : Bool} (held : Bool) (new old : α)

/-- An optional field that the mailbox carries is taken from it (rule R39). -/
theorem latched_of_present (h : present = true) :
    (present || held) = true ∧ (if present = true then new else old) = new := by
  subst h; exact ⟨rfl, rfl⟩

/-- One that it does not carry stays as it was. -/
theorem latched_of_absent (h : present = false) :
    (present || held) = held ∧ (if present = true then new else old) = old := by
  subst h; exact ⟨rfl, rfl⟩

end Optional

/-! ### The two branches -/

/-- With no command pending a missed one is counted (rules R355, R384). -/
theorem cmdLatch_of_idle {s : State} (h : s.asst.cmdPending = false) :
    cmdLatch s = { s with
      asst := { s.asst with cmdPending := false, commMissed := sat 8 (s.asst.commMissed.toNat + 1) }
      pend := { s.pend with fwEnabled := s.cfg.fwEnabled && s.cmd.flags.getLsbD 0 } } := by
  have htake : takeCommand s = s.withAsst { s.asst with commMissed := sat 8 (s.asst.commMissed.toNat + 1) } :=
    if_neg (by simp [h])
  rw [cmdLatch, htake, ← h]
  rfl

/-- A pending command is latched (rules R355, R359). -/
theorem cmdLatch_of_pending {s : State} (h : s.asst.cmdPending = true) :
    cmdLatch s = { s with
      asst := { s.asst with cmdPending := false, commMissed := 0 }
      ctl := { s.ctl with mode := modeOfCode s.cmdIn.mode, modeParam := s.cmdIn.modeParam }
      cmd := latchRecord s.cmdIn s.cmd
      pend := { s.pend with fwEnabled := s.cfg.fwEnabled && s.cmdIn.flags.getLsbD 0 } } := by
  have htake : takeCommand s = _ := if_pos h
  rw [cmdLatch, htake]
  rfl

end Sys2Proof.Laws

namespace Sys2Proof.Settled

open Sys2Proof.Laws Sys2Proof.Machine

/-- Settles O33: the two branches of CMD_LATCH, and the latched record field by field. -/
theorem cmdLatch : Obligations.CmdLatch := by
  intro s
  refine ⟨Machine.cmdLatch s, rfl, ?_⟩
  cases h : s.asst.cmdPending with
  | false =>
    rw [cmdLatch_of_idle h]
    exact ⟨rfl, fun _ => ⟨sat_toNat 8 _, rfl, rfl⟩, nofun⟩
  | true =>
    rw [cmdLatch_of_pending h]
    obtain ⟨h0, h1, h2, h3, h4, h5⟩ := modeOfCode_of_held s.cmdIn.mode
    exact ⟨rfl, nofun, fun _ => ⟨rfl, rfl, h0, h1, h2, h3, h4, h5, modeOfCode_of_reserved, rfl,
      latched_of_present _ _ _, latched_of_absent _ _ _, latched_of_present _ _ _, latched_of_absent _ _ _,
      latched_of_present _ _ _, latched_of_absent _ _ _, latched_of_present _ _ _, latched_of_absent _ _ _,
      latched_of_present _ _ _, latched_of_absent _ _ _⟩⟩

end Sys2Proof.Settled
end

section
/-! PROOFS. The rows of formats HALL3 and PAS4 (rules R104 to R106; log entry 2): each is HALL_EDGE or CAD_STEP on its own pattern or
pair. -/

namespace Sys2Proof.Laws

open Sys2Proof.Machine

/-! ### Format HALL3 -/

/-- HALL_EDGE completes on a configured block. -/
theorem exec_hallEdge_of_configured {s : State} (h : s.asst.cfgValid = true) (tick : U16) (hall : U3) :
    exec (.hallEdge tick hall) s = .next (hallEdge tick hall s) :=
  guarded_of_true _ _ h

/-- `hall` is the pattern of sector `k`, entered from the pattern `pred` and from no other (rules R104, R131 to R133). -/
def EntersFrom (hall pred : U3) (k : Fin 6) : Prop :=
  hallSector hall = some k ∧ ∀ last, hallAccept last hall = true ↔ last = 0 ∨ last = pred

/-- The forward sequence 6, 2, 3, 1, 5, 4 of the patterns (rules R104, R132). -/
theorem entersFrom_forward :
    EntersFrom 6 4 0 ∧ EntersFrom 2 6 1 ∧ EntersFrom 3 2 2 ∧ EntersFrom 1 3 3 ∧ EntersFrom 5 1 4 ∧ EntersFrom 4 5 5 :=
  ⟨⟨rfl, by decide⟩, ⟨rfl, by decide⟩, ⟨rfl, by decide⟩, ⟨rfl, by decide⟩, ⟨rfl, by decide⟩, ⟨rfl, by decide⟩⟩

/-- The revolution length of an accepted transition leaves what the transition captured (rule R137). -/
theorem hallRevolution_frame (p : Params) (tick : U16) (k : Fin 6) (r0 r : RotorState) :
    (hallRevolution p tick k r0 r).hallLast = r.hallLast ∧ (hallRevolution p tick k r0 r).sector = r.sector
      ∧ (hallRevolution p tick k r0 r).sectorAngle = r.sectorAngle
      ∧ (hallRevolution p tick k r0 r).hallRefTick = r.hallRefTick := by
  unfold hallRevolution
  split
  · split <;> exact ⟨rfl, rfl, rfl, rfl⟩
  · exact ⟨rfl, rfl, rfl, rfl⟩

section HallRow

variable {s : State} {tick : U16} {hall pred : U3} {k : Fin 6} (h : EntersFrom hall pred k)
include h

/-- From its predecessor, or from no pattern at all, a pattern enters its sector (rules R130, R135, R136). -/
theorem hallEdge_of_pred (hlast : s.rotor.hallLast = 0 ∨ s.rotor.hallLast = pred) :
    (hallEdge tick hall s).rotor.hallLast = hall ∧ (hallEdge tick hall s).rotor.sector = k
      ∧ (hallEdge tick hall s).rotor.sectorAngle = s.cfg.hallAngle.get k
      ∧ (hallEdge tick hall s).rotor.hallRefTick = tick
      ∧ hallEdge tick hall s = { s with rotor := (hallEdge tick hall s).rotor } := by
  obtain ⟨hsector, haccept⟩ := h
  have he : hallEdge tick hall s
      = s.withRotor (hallRevolution s.par tick k s.rotor (hallCapture s.cfg tick hall k s.rotor)) := by
    simp only [hallEdge, hsector, (haccept _).mpr hlast, if_true]
  obtain ⟨h1, h2, h3, h4⟩ := hallRevolution_frame s.par tick k s.rotor (hallCapture s.cfg tick hall k s.rotor)
  rw [he]
  exact ⟨h1, h2, h3, h4, rfl⟩

/-- From any other pattern nothing changes (rule R133). -/
theorem hallEdge_of_not_pred (hlast : ¬(s.rotor.hallLast = 0 ∨ s.rotor.hallLast = pred)) : hallEdge tick hall s = s := by
  obtain ⟨hsector, haccept⟩ := h
  have hreject : ¬hallAccept s.rotor.hallLast hall = true := fun ha => hlast ((haccept _).mp ha)
  simp only [hallEdge, hsector, if_neg hreject]

/-- A row of format HALL3 with a valid pattern is HALL_EDGE with it (rule R104, log entry 2). -/
theorem hallRow_runs {i : Instr} (hrow : exec i s = exec (.hallEdge tick hall) s) (hcfg : s.asst.cfgValid = true) :
    ∃ t, exec i s = .next t ∧ exec (.hallEdge tick hall) s = .next t
      ∧ ((s.rotor.hallLast = 0 ∨ s.rotor.hallLast = pred) →
        t.rotor.hallLast = hall ∧ t.rotor.sector = k ∧ t.rotor.sectorAngle = s.cfg.hallAngle.get k
          ∧ t.rotor.hallRefTick = tick ∧ t = { s with rotor := t.rotor })
      ∧ (¬(s.rotor.hallLast = 0 ∨ s.rotor.hallLast = pred) → t = s) :=
  have hnext := exec_hallEdge_of_configured hcfg tick hall
  ⟨_, hrow.trans hnext, hnext, hallEdge_of_pred h, hallEdge_of_not_pred h⟩

end HallRow

/-- The forward successor of a pattern has the next sector (rules R104, R131, R132). -/
theorem sector_of_hallNext : ∀ p q : U3, hallNext p = some q →
    ∃ k j, hallSector p = some k ∧ hallSector q = some j ∧ j.val = (k.val + 1) % 6 := by decide

/-! ### Format PAS4 -/

/-- The counters leave the state of the pins (rule R241). -/
theorem cadRun_pasOld (c : CadenceState) : (cadRun c).pasOld = c.pasOld := by
  simp only [cadRun]
  split
  · rfl
  · split <;> rfl

/-- The counters leave a cadence that is stopped with no reference (rule R241). -/
theorem cadRun_stopped {c : CadenceState} (hticks : c.cadTicks = 0) (href : c.cadRef = none) :
    (cadRun c).cadTicks = 0 ∧ (cadRun c).cadRef = none := by
  simp only [cadRun]
  split
  · exact ⟨rfl, rfl⟩
  · simp [hticks, href]

/-- A pair of equal states is the class SAME, and no other is (rule R242). -/
theorem pasClass_eq_same_iff (p : Params) (old new : U2) : pasClass p old new = .same ↔ new = old := by
  unfold pasClass
  split
  · simp [*]
  · split <;> simp [*]

/-- A cadence step latches the state of the pins (rule R241). -/
theorem cadStep_pasOld (pas : U2) (s : State) : (cadStep pas s).cad.pasOld = pas := by
  refine (cadRun_pasOld _).trans ?_
  unfold cadTransition
  split
  · next hsame => exact ((pasClass_eq_same_iff _ _ _).mp hsame).symm
  · rfl
  · rfl

/-- A transition that is not forward stops the cadence (rule R243). -/
theorem cadStep_of_bwd {pas : U2} {s : State} (h : pasClass s.par s.cad.pasOld pas = .bwd) :
    (cadStep pas s).cad.cadTicks = 0 ∧ (cadStep pas s).cad.cadRef = none := by
  have ht : cadTransition s.par pas s.cad = { cadBackward s.cad with cadStopCnt := 0, pasOld := pas } := by
    simp only [cadTransition, h]
  refine cadRun_stopped ?_ ?_ <;> rw [ht] <;> rfl

/-- A row of format PAS4 is CAD_STEP where its old state is held, and is refused elsewhere (rule R106, log entry 2). -/
theorem pasRow_runs {i : Instr} {old new : U2} (hrow : ∀ s, exec i s = pasRow old new s) :
    (∀ s : State, s.cad.pasOld = old → ∃ t, exec i s = .next t ∧ exec (.cadStep new) s = .next t ∧ t.cad.pasOld = new
        ∧ (pasClass s.par old new = .bwd → t.cad.cadTicks = 0 ∧ t.cad.cadRef = none))
      ∧ ∀ s : State, s.cad.pasOld ≠ old → exec i s = .refused .codeNotHeld := by
  refine ⟨fun s hold => ?_, fun s hold => ?_⟩
  · subst hold
    exact ⟨_, (hrow s).trans (guarded_of_true _ _ (decide_eq_true rfl)), rfl, cadStep_pasOld new s, cadStep_of_bwd⟩
  · exact (hrow s).trans (guarded_of_false _ _ (decide_eq_false hold))

end Sys2Proof.Laws

namespace Sys2Proof.Settled

open Sys2Proof.Laws Sys2Proof.Machine

/-- Settles O22: the two tables by evaluation; each valid row with its predecessor and its sector, and the two invalid rows. -/
theorem hallRows : Obligations.HallRows := by
  refine ⟨⟨by decide, by decide, sector_of_hallNext⟩, fun s tick hcfg => ?_, fun s tick hcfg =>
    ⟨exec_hallEdge_of_configured hcfg tick 0, exec_hallEdge_of_configured hcfg tick 7⟩⟩
  obtain ⟨h6, h2, h3, h1, h5, h4⟩ := entersFrom_forward
  simp only [List.forall_mem_cons]
  exact ⟨hallRow_runs h6 rfl hcfg, hallRow_runs h2 rfl hcfg, hallRow_runs h3 rfl hcfg, hallRow_runs h1 rfl hcfg,
    hallRow_runs h5 rfl hcfg, hallRow_runs h4 rfl hcfg, List.forall_mem_nil _⟩

/-- Settles O29: each row with its class under P_REF. -/
theorem pasRows : Obligations.PasRows := by
  unfold Obligations.PasRows
  iterate 16 refine List.forall_mem_cons.mpr ⟨⟨by decide, pasRow_runs fun _ => rfl⟩, ?_⟩
  exact List.forall_mem_nil _

end Sys2Proof.Settled
end

section
/-! PROOFS. The rows of formats MODE, SYS, CMODE and MTYPE (rules R109 to R111, R113; log entry 2): each runs what its code selects. -/

namespace Sys2Proof.Laws

open Sys2Proof.Machine

/-! ### Format MODE -/

/-- MODE_POLICY writes the registers of CRUISE and the working values (rules R300, R326). -/
theorem modePolicy_frame (s : State) :
    modePolicy s = { s with
      asst := { s.asst with
        cruiseActive := (modePolicy s).asst.cruiseActive, cruiseTargetX10 := (modePolicy s).asst.cruiseTargetX10,
        cruiseIntegral := (modePolicy s).asst.cruiseIntegral }
      work := { s.work with tgt := (modePolicy s).work.tgt } } :=
  runPolicy_elim (P := fun u => fwBonus u = { s with
    asst := { s.asst with
      cruiseActive := (fwBonus u).asst.cruiseActive, cruiseTargetX10 := (fwBonus u).asst.cruiseTargetX10,
      cruiseIntegral := (fwBonus u).asst.cruiseIntegral }
    work := { s.work with tgt := (fwBonus u).work.tgt } }) fun _ _ _ _ _ => rfl

/-- A mode other than CRUISE clears `cruise_active` and writes no other assist register (rule R322). -/
theorem modePolicy_asst {s : State} (h : s.ctl.mode ≠ .cruise) : (modePolicy s).asst = { s.asst with cruiseActive := false } := by
  unfold modePolicy runPolicy
  split
  case h_5 hmode => exact absurd hmode h
  all_goals rfl

/-- A row of format MODE latches its code and runs MODE_POLICY (rules R109, R118, log entry 2). -/
theorem modeRow_runs {i : Instr} {c : U8} {m : Mode} {s : State} (hrow : exec i s = modeRow c s) (hm : modeOfCode c = m) :
    ∃ t, exec i s = .next t ∧ exec .modePolicy { s with ctl := { s.ctl with mode := m } } = .next t
      ∧ t = { s with
          ctl := { s.ctl with mode := m }
          asst := { s.asst with
            cruiseActive := t.asst.cruiseActive, cruiseTargetX10 := t.asst.cruiseTargetX10,
            cruiseIntegral := t.asst.cruiseIntegral }
          work := { s.work with tgt := t.work.tgt } }
      ∧ (m ≠ .cruise → t.asst = { s.asst with cruiseActive := false }) := by
  subst hm
  exact ⟨_, hrow, rfl, modePolicy_frame _, fun hm => modePolicy_asst hm⟩

/-! ### Format SYS -/

/-- A row of format SYS is refused unless its code is the one held (log entry 2). -/
theorem sysRow_of_not_held {x : SysState} {s : State} (h : s.ctl.systemState ≠ x) : sysRow x s = .refused .codeNotHeld :=
  guarded_of_false _ _ (decide_eq_false h)

/-- The row of the code held runs what it selects. -/
theorem sysRow_of_held {x : SysState} {s : State} (h : s.ctl.systemState = x) : sysRow x s = .next (sysSelects s) :=
  guarded_of_true _ _ (decide_eq_true h)

/-- With no error the gate lets the targets through (rules R343, R389). -/
theorem sysSelects_of_noError {s : State} (h : s.ctl.systemState = .noError) :
    sysSelects s = { s with pend := { s.pend with tlm := { s.pend.tlm with faultCode := 0 } } } := by
  simp only [sysSelects, faultGate, faultGateTargets, sysCode, h]
  rfl

/-- Under a fault the gate zeroes the targets (rules R343, R388). -/
theorem sysSelects_of_fault {s : State} (h : s.ctl.systemState ≠ .noError) :
    sysSelects s = { s with
      work := { s.work with tgt := { s.work.tgt with i := 0, dutyTgt := 0, down := s.par.rampDownMin } }
      pend := { s.pend with tlm := { s.pend.tlm with faultCode := sysCode s.ctl.systemState } } } := by
  rcases faultGateTargets_cases s.par s.ctl.systemState s.tgt with ⟨h0, -⟩ | ⟨-, hgate⟩
  · exact absurd h0 h
  · simp only [sysSelects, faultGate, hgate]
    rfl

/-- The row of a fault that is held (rule R343). -/
theorem sysRow_of_fault {x : SysState} {s : State} (hx : x ≠ .noError) (h : s.ctl.systemState = x) :
    sysRow x s = .next { s with
      work := { s.work with tgt := { s.work.tgt with i := 0, dutyTgt := 0, down := s.par.rampDownMin } }
      pend := { s.pend with tlm := { s.pend.tlm with faultCode := sysCode x } } } := by
  rw [sysRow_of_held h, sysSelects_of_fault (h ▸ hx), h]

/-! ### Formats CMODE and MTYPE -/

/-- In BLOCKED the electrical speed and the interpolation term are 0 (rules R142, R161). -/
theorem commModeSelects_of_blocked {s : State} (h : s.rotor.commMode = .blocked) :
    commModeSelects s = { s with rotor := { s.rotor with erps := 0 }, work := { s.work with interp := 0 } } := by
  simp only [commModeSelects, interp, erpsDerive, erpsOf, interpOf, State.withRotor_rotor, h]
  rfl

/-- MODE_POLICY with CRUISE latched is CRUISE and then the bonus on its current (rules R300, R326). -/
theorem modePolicy_of_cruise {s : State} (h : s.ctl.mode = .cruise) : modePolicy s = fwBonus (cruisePolicy s) := by
  simp only [modePolicy, runPolicy, h]

/-- CRUISE writes assist registers and the working values (rule R320). -/
theorem cruisePolicy_frame (s : State) :
    cruisePolicy s = { s with asst := (cruisePolicy s).asst, work := { s.work with tgt := (cruisePolicy s).work.tgt } } :=
  cruisePolicy_elim (P := fun u => u = { s with asst := u.asst, work := { s.work with tgt := u.work.tgt } })
    fun _ _ _ _ _ => rfl

/-- A row of format MTYPE runs what its motor type selects where that type is configured, and is refused elsewhere (rules R113, R181,
R323, log entry 2). -/
theorem mtypeRow_runs {i : Instr} {m : MotorType}
    (hrow : ∀ s, exec i s = guarded (decide (s.cfg.motorType = m)) .codeNotHeld (motorTypeSelects s)) :
    (∀ s : State, s.cfg.motorType = m → ∃ u t, exec i s = .next t ∧ exec .focUpdate u = .next t
        ∧ (s.ctl.mode ≠ .cruise → u = s)
        ∧ (s.ctl.mode = .cruise → ∃ v, exec .modePolicy s = .next v
            ∧ u = { s with asst := v.asst, work := { s.work with tgt := u.work.tgt } }
            ∧ u.work.tgt.dutyTgt = v.work.tgt.dutyTgt))
      ∧ ∀ s : State, s.cfg.motorType ≠ m → exec i s = .refused .codeNotHeld := by
  refine ⟨fun s hm => ?_, fun s hm => (hrow s).trans (guarded_of_false _ _ (decide_eq_false hm))⟩
  refine ⟨if s.ctl.mode = .cruise then cruisePolicy s else s, _, (hrow s).trans (guarded_of_true _ _ (decide_eq_true hm)), rfl,
    fun h => if_neg h, fun h => ?_⟩
  rw [if_pos h]
  exact ⟨_, congrArg Host.Outcome.next (modePolicy_of_cruise h), cruisePolicy_frame s, rfl⟩

end Sys2Proof.Laws

namespace Sys2Proof.Settled

open Sys2Proof.Laws Sys2Proof.Machine

/-- Settles O45: each row with the mode its code is latched as. -/
theorem modeRows : Obligations.ModeRows := by
  refine ⟨?_, fun c s hc => ?_⟩
  · iterate 6 refine List.forall_mem_cons.mpr ⟨fun _ => modeRow_runs rfl rfl, ?_⟩
    exact List.forall_mem_nil _
  · obtain ⟨t, hrow, hpolicy, hframe, -⟩ := modeRow_runs (i := .modeReserved c) (s := s) rfl (modeOfCode_of_reserved hc)
    exact ⟨t, hrow, hpolicy, congrArg (fun u : State => u.ctl.mode) hframe⟩

/-- Settles O51: the two rows of CMODE, then those of MTYPE. -/
theorem cmodeMtypeRows : Obligations.CmodeMtypeRows := by
  refine ⟨⟨fun s h => ⟨?_, ?_⟩, fun s h => ⟨_, _, rfl, rfl, ?_, ?_⟩⟩, ?_⟩
  · exact (guarded_of_true _ _ (decide_eq_true h)).trans (congrArg _ (commModeSelects_of_blocked h))
  · exact guarded_of_false _ _ (decide_eq_false (by simp [h]))
  · exact guarded_of_true _ _ (decide_eq_true h)
  · exact guarded_of_false _ _ (decide_eq_false (by simp [h]))
  · iterate 2 refine List.forall_mem_cons.mpr ⟨mtypeRow_runs fun _ => rfl, ?_⟩
    exact List.forall_mem_nil _

/-- Settles O39: the row of the code held, without an error and under each fault, and the rows of the others. -/
theorem sysRows : Obligations.SysRows := by
  refine ⟨fun s h => (sysRow_of_held h).trans (congrArg _ (sysSelects_of_noError h)), ?_, ?_⟩
  · iterate 3 refine List.forall_mem_cons.mpr ⟨fun _ => sysRow_of_fault nofun, ?_⟩
    exact List.forall_mem_nil _
  · iterate 4 refine List.forall_mem_cons.mpr ⟨fun _ => sysRow_of_not_held, ?_⟩
    exact List.forall_mem_nil _

end Sys2Proof.Settled
end

section
/-! PROOFS. The events are their sub-operations in order (rules R103, R351, R352, R355, R358): a sub-operation that checks a sample does
so against a parameter, which the ones before it leave alone. -/

namespace Sys2Proof.Laws

open Sys2Proof.Machine

/-! ### Sub-operations with a sample -/

theorem exec_ibatFilter {x : U12} {s : State} (hx : x.toNat ≤ s.par.adcIMaxSample) :
    exec (.ibatFilter x) s = .next (ibatFilter x s) :=
  guarded_of_true _ _ ((adcOk_iff _ _).mpr hx)

theorem exec_pinLatch {v : U12} (brake : Bool) {s : State} (hv : v.toNat ≤ s.par.adcVMaxSample) :
    exec (.pinLatch v brake) s = .next (pinLatch v brake s) :=
  guarded_of_true _ _ ((adcOk_iff _ _).mpr hv)

theorem exec_tqAcquire {q : U12} {s : State} (hq : q.toNat ≤ s.par.adcTMaxSample) :
    exec (.tqAcquire q) s = .next (tqAcquire q s) :=
  guarded_of_true _ _ ((adcOk_iff _ _).mpr hq)

theorem exec_telemetryStage {x : U12} {s : State} (hx : x.toNat ≤ s.par.adcAuxMaxSample) :
    exec (.telemetryStage x) s = .next (telemetryStage x s) :=
  guarded_of_true _ _ ((adcOk_iff _ _).mpr hx)

/-! ### PWM_RISING and PWM_FALLING -/

theorem exec_pwmRising {s : State} {v i : U12} (brake whl : Bool) (pas : U2) (hcfg : s.asst.cfgValid = true)
    (hv : v.toNat ≤ s.par.adcVMaxSample) (hi : i.toNat ≤ s.par.adcIMaxSample) :
    exec (.pwmRising v i brake whl pas) s = .next (pwmRising v i brake whl pas s) :=
  (if_pos hcfg).trans
    (guarded_of_true _ _ (Bool.and_eq_true_iff.mpr ⟨(adcOk_iff _ _).mpr hv, (adcOk_iff _ _).mpr hi⟩))

theorem exec_pwmFalling {s : State} (tick : U16) (hcfg : s.asst.cfgValid = true) :
    exec (.pwmFalling tick) s = .next (pwmFalling tick s) :=
  guarded_of_true _ _ hcfg

/-! ### TICK_BEGIN -/

theorem exec_tickBegin {s : State} {x q : U12} (hcfg : s.asst.cfgValid = true) (hopen : s.asst.tickOpen = false)
    (hx : x.toNat ≤ s.par.adcAuxMaxSample) (hq : q.toNat ≤ s.par.adcTMaxSample) :
    exec (.tickBegin x q) s = .next (tickBegin x q s) := by
  have hadc : (adcOk s.par.adcAuxMaxSample x && adcOk s.par.adcTMaxSample q) = true :=
    Bool.and_eq_true_iff.mpr ⟨(adcOk_iff _ _).mpr hx, (adcOk_iff _ _).mpr hq⟩
  exact (if_pos hcfg).trans ((if_neg (by simp [hopen])).trans (guarded_of_true _ _ hadc))

/-! No sub-operation of a tick writes the parameters (rule R70). -/

@[simp] theorem cmdLatch_par (s : State) : (cmdLatch s).par = s.par := SubOp.run_par .cmdLatch s
@[simp] theorem snapshot_par (s : State) : (snapshot s).par = s.par := rfl
@[simp] theorem vbatFilter_par (s : State) : (vbatFilter s).par = s.par := rfl
@[simp] theorem whlSpeed_par (s : State) : (whlSpeed s).par = s.par := rfl
@[simp] theorem cadRpm_par (s : State) : (cadRpm s).par = s.par := rfl
@[simp] theorem tqAcquire_par (q : U12) (s : State) : (tqAcquire q s).par = s.par := rfl
@[simp] theorem faultDetect_par (s : State) : (faultDetect s).par = s.par := rfl
@[simp] theorem modePolicy_par (s : State) : (modePolicy s).par = s.par := SubOp.run_par .runPolicy s
@[simp] theorem postProcess_par (x : U12) (s : State) : (postProcess x s).par = s.par := SubOp.run_par (.auxBranch x) s
@[simp] theorem globalCaps_par (s : State) : (globalCaps s).par = s.par := rfl
@[simp] theorem focUpdate_par (s : State) : (focUpdate s).par = s.par := rfl

/-! ### TICK_END -/

theorem exec_tickEnd {s : State} (hcfg : s.asst.cfgValid = true) :
    exec .tickEnd s = guarded s.asst.tickOpen .tickNotOpen (closeTick (pwmGate (publish s))) :=
  if_pos hcfg

/-- The gate leaves the staged telemetry (rule R362). -/
theorem pwmGate_pend (s : State) : (pwmGate s).pend = s.pend :=
  pwmGate_elim (P := fun u => u.pend = s.pend) rfl rfl fun _ => rfl

/-- The end of a tick whose staged telemetry is `r` (rule R358). -/
theorem closeTick_of_tlm {s : State} {r : Telemetry} (h : s.pend.tlm = r) :
    closeTick s = { s with out := { s.out with tlm := r }, asst := { s.asst with tickOpen := false } } := by
  subst h; rfl

end Sys2Proof.Laws

namespace Sys2Proof.Settled

open Sys2Proof.Laws Sys2Proof.Machine

/-- Settles O32: the sub-operations one by one. -/
theorem pwmEvents : Obligations.PwmEvents :=
  ⟨fun _ _ _ brake whl pas hcfg hv hi =>
    ⟨_, _, _, _, _, exec_ibatFilter hi, exec_pinLatch brake hv, rfl, rfl, rfl, exec_pwmRising brake whl pas hcfg hv hi⟩,
  fun _ tick hcfg => ⟨_, _, _, _, _, rfl, rfl, rfl, rfl, rfl, exec_pwmFalling tick hcfg⟩⟩

/-- Settles O53: the sub-operations one by one; a sample is checked against the parameters of the state before the event. -/
theorem tickBegin : Obligations.TickBegin := by
  intro s x q hcfg hx hq
  refine ⟨exec_tickBegin_of_open x q hcfg, fun hopen => ?_⟩
  refine ⟨_, _, _, _, _, _, _, _, _, _, _, _, rfl, rfl, rfl, rfl, rfl, exec_tqAcquire ?_, rfl, rfl, exec_postProcess ?_, rfl,
    rfl, exec_telemetryStage ?_, exec_tickBegin hcfg hopen hx hq⟩
  · simpa using hq
  · simpa using hx
  · simpa using hx

/-- Settles O55: the gate leaves the telemetry that PUBLISH found staged. -/
theorem tickEnd : Obligations.TickEnd := fun s hcfg =>
  ⟨fun hopen => (exec_tickEnd hcfg).trans (guarded_of_false _ _ hopen), fun hopen =>
    ⟨_, _, rfl, rfl, ((exec_tickEnd hcfg).trans (guarded_of_true _ _ hopen)).trans
      (congrArg _ (closeTick_of_tlm (congrArg Pend.tlm (pwmGate_pend (publish s)))))⟩⟩

end Sys2Proof.Settled
end

section
/-! PROOFS. Hall commutation and the interpolation term (`40_hall_commutation.md`; rule R161): what an accepted edge writes, what a stall
writes, and the two values that the commutation mode selects. -/

namespace Sys2Proof.Laws

open Sys2Proof.Machine

/-! ### HALL_EDGE -/

/-- A pattern that is accepted has a sector (rules R131, R133). -/
theorem hallSector_of_accept {last hall : U3} (h : hallAccept last hall = true) : ∃ k, hallSector hall = some k := by
  simp only [hallAccept, Bool.and_eq_true] at h
  obtain ⟨⟨hsome, -⟩, -⟩ := h
  exact Option.isSome_iff_exists.mp hsome

/-- Rule R133 read the other way: a pattern is rejected as invalid, as a repetition, or as no forward successor. -/
theorem not_hallAccept_iff (last hall : U3) :
    ¬hallAccept last hall = true ↔ hall = 0 ∨ hall = 7 ∨ hall = last ∨ (last ≠ 0 ∧ hallNext last ≠ some hall) := by
  rw [hallAccept_iff]
  tauto

/-- A rejected edge changes nothing (rule R133). -/
theorem hallEdge_of_rejected {tick : U16} {hall : U3} {s : State} (h : ¬hallAccept s.rotor.hallLast hall = true) :
    hallEdge tick hall s = s := by
  rcases hallEdge_cases tick hall s with hsame | ⟨-, -, haccept, -⟩
  · exact hsame
  · exact absurd haccept h

/-- An accepted edge captures its pattern and then measures the revolution (rules R130, R135 to R137). -/
theorem hallEdge_of_accepted {tick : U16} {hall : U3} {k : Fin 6} {s : State} (hk : hallSector hall = some k)
    (h : hallAccept s.rotor.hallLast hall = true) :
    hallEdge tick hall s = s.withRotor (hallRevolution s.par tick k s.rotor (hallCapture s.cfg tick hall k s.rotor)) := by
  simp only [hallEdge, hk, if_pos h]

/-- The revolution registers field by field: the reference moves at every transition into REV_SECTOR; the length and the mode follow
only where there was a valid reference before (rule R137). -/
theorem hallRevolution_eq (p : Params) (tick : U16) (k : Fin 6) (r0 r : RotorState) :
    hallRevolution p tick k r0 r = { r with
      revRefTick := if k.val = p.revSector then tick else r.revRefTick
      revRefValid := if k.val = p.revSector then true else r.revRefValid
      revTicks := if k.val = p.revSector ∧ r0.revRefValid = true then tick - r0.revRefTick else r.revTicks
      commMode := if k.val = p.revSector ∧ r0.revRefValid = true then .interpolated else r.commMode } := by
  unfold hallRevolution
  by_cases hk : k.val = p.revSector
  · by_cases hr : r0.revRefValid = true
    · simp only [hk, hr, and_self, if_true]; rfl
    · simp only [hk, hr, if_true]; rfl
  · simp only [hk, false_and, if_false]

/-! ### STALL_CHECK -/

/-- The difference of two samples of the tick counter is taken modulo its period (rules R10, R11). -/
theorem tickDiff_toNat (a b : U16) : (tickDiff a b).toNat = (65536 + a.toNat - b.toNat) % 65536 := by
  have hb := b.isLt
  rw [tickDiff, BitVec.toNat_sub]
  omega

/-- With more than STALL_TICKS elapsed STALL_CHECK declares the stall (rule R140). -/
theorem stallCheck_of_stalled {tick : U16} {s : State} (h : s.par.stallTicks < (tickDiff tick s.rotor.hallRefTick).toNat) :
    stallCheck tick s = declareStall (s.withWork { s.work with raw := tickDiff tick s.rotor.hallRefTick }) :=
  if_pos (decide_eq_true h)

/-- With at most STALL_TICKS elapsed STALL_CHECK passes the elapsed ticks on and does nothing else (rule R140). -/
theorem stallCheck_of_running {tick : U16} {s : State} (h : (tickDiff tick s.rotor.hallRefTick).toNat ≤ s.par.stallTicks) :
    stallCheck tick s = s.withWork { s.work with raw := tickDiff tick s.rotor.hallRefTick } :=
  if_neg (by simpa [stalled] using h)

/-! ### ERPS_DERIVE and INTERP -/

/-- The electrical speed (rule R142): 0 when BLOCKED, the largest value with no revolution length, else the quotient, saturated. -/
theorem erpsOf_toNat (p : Params) (r : RotorState) :
    (erpsOf p r).toNat =
      (if r.commMode = .blocked then 0
       else if r.revTicks.toNat = 0 then 65535
       else min (p.hallTickHz / r.revTicks.toNat) 65535) := by
  unfold erpsOf
  cases r.commMode with
  | blocked => rfl
  | interpolated =>
    have hzero : r.revTicks = 0 ↔ r.revTicks.toNat = 0 := BitVec.toNat_eq
    simp only [hzero, reduceCtorEq, if_false]
    split
    · rfl
    · exact sat_toNat 16 _

/-- The interpolation term (rule R161): the elapsed part of the revolution in 256ths and the field-weakening offset; 0 when BLOCKED. -/
theorem interpOf_toNat (r : RotorState) (fwAngle : U8) (raw : U16) :
    (interpOf r fwAngle raw).toNat =
      (if r.commMode = .blocked then 0
       else ((if r.revTicks.toNat = 0 then 0
          else (raw.toNat + r.sectorOffset.toNat) % 65536 * 256 / r.revTicks.toNat)
          + fwAngle.toNat) % 256) := by
  unfold interpOf
  cases r.commMode with
  | blocked => rfl
  | interpolated =>
    have hoff : (raw + r.sectorOffset.setWidth 16).toNat = (raw.toNat + r.sectorOffset.toNat) % 65536 := by
      rw [BitVec.toNat_add, BitVec.toNat_setWidth_of_le (by omega)]
    have hzero : r.revTicks = 0 ↔ r.revTicks.toNat = 0 := BitVec.toNat_eq
    simp only [hzero, hoff, BitVec.toNat_ofNat, reduceCtorEq, if_false]

end Sys2Proof.Laws

namespace Sys2Proof.Settled

open Sys2Proof.Laws Sys2Proof.Machine

/-- Settles O21: the two branches of rule R133; on the accepted one, the capture with its revolution registers. -/
theorem hallEdge : Obligations.HallEdge := by
  intro s tick hall hcfg
  have hexec := exec_hallEdge_of_configured hcfg tick hall
  refine ⟨fun hreject => ?_, fun haccept => ?_⟩
  · rw [hexec, hallEdge_of_rejected ((not_hallAccept_iff _ _).mpr hreject)]
  · have ha := (hallAccept_iff _ _).mpr haccept
    obtain ⟨k, hk⟩ := hallSector_of_accept ha
    refine ⟨k, hk, ?_⟩
    rw [hexec, hallEdge_of_accepted hk ha, hallRevolution_eq]
    rfl

/-- Settles O23: with a stall and without one. -/
theorem stallCheck : Obligations.StallCheck := by
  intro s tick hrev
  refine ⟨_, rfl, ?_⟩
  rcases Nat.lt_or_ge s.par.stallTicks (tickDiff tick s.rotor.hallRefTick).toNat with hstall | hrun
  · rw [stallCheck_of_stalled hstall]
    exact ⟨rfl, tickDiff_toNat _ _, fun _ => ⟨rfl, rfl, sat_toNat_of_lt 16 _ hrev, rfl⟩,
      fun hle => absurd hle (Nat.not_le.mpr hstall)⟩
  · rw [stallCheck_of_running hrun]
    exact ⟨rfl, tickDiff_toNat _ _, fun hlt => absurd hlt (Nat.not_lt.mpr hrun), fun _ => ⟨rfl, rfl⟩⟩

/-- Settles O24: each operation writes its one value. -/
theorem speedAndInterpolation : Obligations.SpeedAndInterpolation :=
  ⟨fun s => ⟨_, rfl, rfl, erpsOf_toNat s.par s.rotor⟩, fun s => ⟨_, rfl, rfl, interpOf_toNat s.rotor s.drive.fwAngle s.work.raw⟩⟩

end Sys2Proof.Settled
end

section
/-! PROOFS. SVM_SYNTH (rules R163 to R165): the three indices lie on one circle of 256 entries, and each compare value is PWM_MID moved by
the scaled deviation of its table entry, upwards above SVM_MID and downwards below it. -/

namespace Sys2Proof.Laws

open Sys2Proof.Machine

/-! ### The indices -/

/-- The reference index (rule R163): the sector's angle, the interpolation term and the FOC angle. -/
theorem idxB_toNat (s : State) :
    (idxB s).toNat = (s.rotor.sectorAngle.toNat + s.work.interp.toNat + s.foc.focAngle.toNat) % 256 := by
  simp only [idxB, BitVec.toNat_add, Nat.mod_add_mod]

/-- An index that leads another one by an offset (rule R163). -/
theorem leadBy_toNat (idx : U8) (offset : Nat) : (idx + BitVec.ofNat 8 offset).toNat = (idx.toNat + offset) % 256 := by
  simp only [BitVec.toNat_add, BitVec.toNat_ofNat, Nat.add_mod_mod]

/-! ### The compare value of one phase -/

/-- Above the midpoint of the table the scaled deviation is added to PWM_MID (rule R164). -/
theorem phaseOf_of_above {p : Params} {e : Nat} (duty : U8) (h : p.svmMid < e) :
    phaseOf p duty e = p.pwmMid + (e - p.svmMid) * duty.toNat / 256 := if_pos h

/-- Up to the midpoint it is taken from PWM_MID, and nothing is cut off where it does not exceed PWM_MID (rule R164). -/
theorem phaseOf_add_deviation {p : Params} {e : Nat} {duty : U8} (h : e ≤ p.svmMid)
    (hdev : (p.svmMid - e) * duty.toNat / 256 ≤ p.pwmMid) :
    phaseOf p duty e + (p.svmMid - e) * duty.toNat / 256 = p.pwmMid := by
  have hbelow : phaseOf p duty e = p.pwmMid - (p.svmMid - e) * duty.toNat / 256 := if_neg (Nat.not_lt.mpr h)
  rw [hbelow, Nat.sub_add_cancel hdev]

/-- The register holds PHASE itself, where twice PWM_MID fits it. -/
theorem phase_toNat {s : State} (hw : s.par.wf = true) (hmid : 2 * s.par.pwmMid < 65536)
    (hd : s.drive.duty.toNat ≤ s.par.dutyMax) (idx : U8) :
    (phase s idx).toNat = phaseOf s.par s.drive.duty (svmRead s.par.svmTable idx) :=
  sat_toNat_of_lt 16 _ ((phaseOf_le hw idx s.drive.duty hd).trans_lt hmid)

end Sys2Proof.Laws

namespace Sys2Proof.Settled

open Sys2Proof.Laws Sys2Proof.Machine

/-- Settles O25: the three values are PHASE at their indices, and by the bound on PWM_MID the lower deviation does not exceed it. -/
theorem svmSynth : Obligations.SvmSynth := by
  intro s hw hmid hd
  refine ⟨_, rfl, rfl, idxA s, idxB s, idxC s, idxB_toNat s, leadBy_toNat _ _, leadBy_toNat _ _, fun v hv => ?_⟩
  have hphase : v.2 = phase s v.1 := by
    simp only [List.mem_cons, List.not_mem_nil, or_false] at hv
    rcases hv with rfl | rfl | rfl <;> rfl
  obtain ⟨-, hlower⟩ := svm_deviation_le s.par hw v.1 s.drive.duty.toNat hd
  rw [hphase, phase_toNat hw hmid hd]
  exact ⟨fun habove => phaseOf_of_above _ habove, fun hbelow => phaseOf_add_deviation hbelow hlower⟩

end Sys2Proof.Settled
end

section
/-! PROOFS. FOC_UPDATE (rules R180 to R184): the gate in its two senses decides the target, and the filter's bound leaves room for the
accumulator and the angle in their registers, so that neither is narrowed. -/

namespace Sys2Proof.Laws

open Sys2Proof.Machine

/-! ### The gate and the target -/

/-- The condition of the phase advance, as rule R180 words it. -/
theorem focCond_iff (s : State) :
    focCond s = true ↔ s.snap.duty.toNat < s.par.focDutyLow ∨ s.snap.ibatFilt.toNat < s.par.focILow
      ∨ s.snap.erps.toNat < s.par.focErpsBandLo ∨ s.par.focErpsBandHi < s.snap.erps.toNat := by
  simp only [focCond, Bool.or_eq_true, decide_eq_true_eq, or_assoc]

/-- The computation is engaged by the condition or by its absence, as the sense of the gate says (rule R182). -/
theorem focEngaged_iff (s : State) :
    focEngaged s = true ↔ (s.par.focGateSense = .engage ∧ focCond s = true) ∨ (s.par.focGateSense = .suppress ∧ ¬focCond s = true) := by
  unfold focEngaged
  cases s.par.focGateSense <;> simp

/-- The computation is not engaged in the two opposite cases (rule R182). -/
theorem not_focEngaged_iff (s : State) :
    ¬focEngaged s = true ↔ (s.par.focGateSense = .engage ∧ ¬focCond s = true) ∨ (s.par.focGateSense = .suppress ∧ focCond s = true) := by
  unfold focEngaged
  cases s.par.focGateSense <;> simp

/-- The reader of the arcsine table clamps its index, so clamping the argument first changes nothing (rules R74, R183). -/
theorem asinRead_min (t : AsinTable) (a : Nat) : asinRead t (min a 127) = asinRead t a :=
  asinRead_congr t (by omega)

/-- Engaged, the target is the table's entry at the clamped argument (rule R183). -/
theorem focTarget_of_engaged {s : State} (h : focEngaged s = true) :
    focTarget s = asinRead s.par.asinTable
      (min (focArg s.par s.cfg.motorType s.snap.duty.toNat s.snap.ibatFilt.toNat s.snap.erps.toNat) 127) := by
  rw [asinRead_min]
  exact if_pos h

/-- Otherwise it is zero (rule R180). -/
theorem focTarget_of_not_engaged {s : State} (h : ¬focEngaged s = true) : focTarget s = 0 := if_neg h

/-- The constant of the motor type (rule R181). -/
theorem focK_eq (p : Params) (m : MotorType) : focK p m = if m = .motorA then p.focKA else p.focKB := by
  cases m <;> rfl

/-- The reference argument (rule R183). -/
theorem focArg_of_reference {p : Params} (h : p.focArg = .reference) (m : MotorType) (d i e : Nat) :
    focArg p m d i e = if d = 0 then 127 else min ((if m = .motorA then p.focKA else p.focKB) * i * e / 128 / d) 127 := by
  simp only [focArg, h, focArgRef, focK_eq, Nat.reducePow]

/-! ### The filter -/

/-- The shift of the filter (rule R7). -/
theorem focShift_of_wf {p : Params} (h : p.wf = true) : p.focShift ≤ 8 := by
  simpa using check_of_wf h (c := ("FOC_SHIFT", decide (p.focShift ≤ 8))) (by simp [Params.checks])

/-- The bound of the filter fits the accumulator's register (rule R184). -/
theorem focAccBound_lt {p : Params} (h : p.wf = true) : 255 * 2 ^ p.focShift < 65536 :=
  calc 255 * 2 ^ p.focShift ≤ 255 * 2 ^ 8 := Nat.mul_le_mul_left _ (Nat.pow_le_pow_right (by decide) (focShift_of_wf h))
    _ < 65536 := by decide

/-- The accumulator keeps its bound (rule R184). -/
theorem focUpdate_focAcc_le {s : State} (hacc : s.foc.focAcc.toNat ≤ 255 * 2 ^ s.par.focShift) :
    (focUpdate s).foc.focAcc.toNat ≤ 255 * 2 ^ s.par.focShift :=
  sat_lowPass_le 16 _ _ _ _ hacc (focTarget_le s)

/-- The accumulator loses its shifted part and gains the target, and is not narrowed (rule R184). -/
theorem focUpdate_focAcc_toNat {s : State} (hw : s.par.wf = true) (hacc : s.foc.focAcc.toNat ≤ 255 * 2 ^ s.par.focShift) :
    (focUpdate s).foc.focAcc.toNat = s.foc.focAcc.toNat - s.foc.focAcc.toNat / 2 ^ s.par.focShift + focTarget s :=
  sat_toNat_of_lt 16 _ ((lowPass_le _ _ _ _ hacc (focTarget_le s)).trans_lt (focAccBound_lt hw))

/-- The staged angle is the new accumulator shifted, and is not narrowed (rules R180, R184). -/
theorem focUpdate_focAngle_toNat {s : State} (hacc : s.foc.focAcc.toNat ≤ 255 * 2 ^ s.par.focShift) :
    (focUpdate s).pend.focAngle.toNat = (focUpdate s).foc.focAcc.toNat / 2 ^ s.par.focShift := by
  have hangle := Nat.div_le_of_le_mul (Nat.mul_comm 255 _ ▸ focUpdate_focAcc_le hacc)
  exact sat_toNat_of_lt 8 _ (Nat.lt_succ_of_le hangle)

end Sys2Proof.Laws

namespace Sys2Proof.Settled

open Sys2Proof.Laws Sys2Proof.Machine

/-- Settles O50: the gate selects the target, and by the filter's bound the two registers hold their values unnarrowed. -/
theorem focUpdate : Obligations.FocUpdate := fun s hw hacc =>
  ⟨Machine.focUpdate s, rfl, rfl, focCond s = true, focTarget s, focCond_iff s,
    fun hsense => focTarget_of_not_engaged ((not_focEngaged_iff s).mpr hsense),
    fun hsense => focTarget_of_engaged ((focEngaged_iff s).mpr hsense),
    focUpdate_focAcc_toNat hw hacc, focUpdate_focAngle_toNat hacc, focUpdate_focAcc_le hacc,
    fun href => focArg_of_reference href _ _ _ _⟩

end Sys2Proof.Settled
end

section
/-! PROOFS. The ramp controller (`43_ramp_controller.md`, rules R201 to R210): what a counted step of each direction writes, which
direction RAMP_STEP takes, and how long a held brake needs to take the duty cycle and the offset to zero. -/

namespace Sys2Proof.Laws

open Sys2Proof.Machine

/-! ### Direction DOWN (rules R202, R205, R208) -/

section Down

variable {period : Nat} {d : DriveState}

/-- The offset goes down first: from an offset of 0 it stays there (rule R205). -/
theorem stepDown_fwAngle_toNat (d : DriveState) : (stepDown d).fwAngle.toNat = d.fwAngle.toNat - 1 := by
  unfold stepDown
  split
  · next hfw => exact toNat_sub_one hfw
  · next hfw =>
    have hzero : d.fwAngle = 0 := not_not.mp hfw
    split <;> simp [hzero]

/-- The duty cycle goes down only from an offset of 0 (rule R205). -/
theorem stepDown_duty_toNat (d : DriveState) :
    (stepDown d).duty.toNat = if d.fwAngle.toNat = 0 then d.duty.toNat - 1 else d.duty.toNat := by
  have hfw0 : d.fwAngle = 0 ↔ d.fwAngle.toNat = 0 := BitVec.toNat_eq
  unfold stepDown
  split
  · next hfw => exact (if_neg (mt hfw0.mpr hfw)).symm
  · next hfw =>
    rw [if_pos (hfw0.mp (not_not.mp hfw))]
    split
    · next hduty => exact toNat_sub_one hduty
    · next hduty => simp [not_not.mp hduty]

/-- Direction DOWN, short of the period. -/
theorem rampDown_of_lt (h : d.rampDownCnt.toNat + 1 < period) :
    rampDown period d = { d with rampUpCnt := 0, rampDownCnt := sat 8 (d.rampDownCnt.toNat + 1) } :=
  if_neg (Nat.not_le.mpr h)

/-- Direction DOWN, once the counter elapses. -/
theorem rampDown_of_ge (h : period ≤ d.rampDownCnt.toNat + 1) :
    rampDown period d = stepDown { d with rampUpCnt := 0, rampDownCnt := 0 } :=
  if_pos h

/-- The values alone go down: the counting is done before (rule R205). -/
theorem stepDown_counters (d : DriveState) :
    (stepDown d).rampUpCnt = d.rampUpCnt ∧ (stepDown d).rampDownCnt = d.rampDownCnt := by
  unfold stepDown
  split
  · exact ⟨rfl, rfl⟩
  · split <;> exact ⟨rfl, rfl⟩

/-- Every step DOWN clears the up counter (rule R208). -/
theorem rampDown_rampUpCnt (period : Nat) (d : DriveState) : (rampDown period d).rampUpCnt = 0 := by
  rcases Nat.lt_or_ge (d.rampDownCnt.toNat + 1) period with hlt | hge
  · rw [rampDown_of_lt hlt]
  · rw [rampDown_of_ge hge]
    exact (stepDown_counters _).1

/-- Short of the period the step is counted, and a period of a u8 leaves room for the count. -/
theorem rampDown_short (hp : period ≤ 255) (h : d.rampDownCnt.toNat + 1 < period) :
    (rampDown period d).rampDownCnt.toNat = d.rampDownCnt.toNat + 1
      ∧ (rampDown period d).duty = d.duty ∧ (rampDown period d).fwAngle = d.fwAngle := by
  rw [rampDown_of_lt h]
  exact ⟨sat_toNat_of_lt 8 _ (by omega), rfl, rfl⟩

/-- An elapsed counter starts over, and one of the two values goes down by one. -/
theorem rampDown_elapsed (h : period ≤ d.rampDownCnt.toNat + 1) :
    (rampDown period d).rampDownCnt.toNat = 0 ∧ (rampDown period d).fwAngle.toNat = d.fwAngle.toNat - 1
      ∧ (rampDown period d).duty.toNat = if d.fwAngle.toNat = 0 then d.duty.toNat - 1 else d.duty.toNat := by
  rw [rampDown_of_ge h]
  exact ⟨congrArg BitVec.toNat (stepDown_counters _).2, stepDown_fwAngle_toNat _, stepDown_duty_toNat _⟩

end Down

/-! ### Direction UP (rules R202, R206 to R208) -/

section Up

variable {raise : DriveState → DriveState} {d : DriveState}

/-- Short of the period the step is counted and nothing is raised. -/
theorem rampUp_short (h : d.rampUpCnt.toNat + 1 < d.rampUpPeriod.toNat) :
    (rampUp raise d).rampUpCnt.toNat = d.rampUpCnt.toNat + 1 ∧ (rampUp raise d).rampDownCnt = 0
      ∧ (rampUp raise d).duty = d.duty ∧ (rampUp raise d).fwAngle = d.fwAngle := by
  have hperiod := d.rampUpPeriod.isLt
  have hshort : rampUp raise d = { d with rampDownCnt := 0, rampUpCnt := sat 8 (d.rampUpCnt.toNat + 1) } :=
    if_neg (Nat.not_le.mpr h)
  rw [hshort]
  exact ⟨sat_toNat_of_lt 8 _ (by omega), rfl, rfl, rfl⟩

/-- An elapsed counter starts over, and the value is raised. -/
theorem rampUp_of_ge (h : d.rampUpPeriod.toNat ≤ d.rampUpCnt.toNat + 1) :
    rampUp raise d = raise { d with rampDownCnt := 0, rampUpCnt := 0 } :=
  if_pos h

/-- What holds of the drive registers with the down counter cleared, however far the up counter is, and is kept by the raise, holds
after a step UP. -/
theorem rampUp_elim {P : DriveState → Prop} (hcount : ∀ c, P { d with rampDownCnt := 0, rampUpCnt := c })
    (hraise : ∀ d', P d' → P (raise d')) : P (rampUp raise d) := by
  simp only [rampUp]
  split
  · exact hraise _ (hcount 0)
  · exact hcount _

/-- The raise of the duty cycle writes nothing else (rule R206). -/
theorem rampUp_raiseDuty_frame (d : DriveState) :
    (rampUp raiseDuty d).rampDownCnt = 0 ∧ (rampUp raiseDuty d).fwAngle = d.fwAngle :=
  rampUp_elim (P := fun d' => d'.rampDownCnt = 0 ∧ d'.fwAngle = d.fwAngle) (fun _ => ⟨rfl, rfl⟩) fun _ h => h

/-- Below a target of a u8 the raised duty cycle fits its register (rule R206). -/
theorem rampUp_raiseDuty_elapsed (hlt : d.duty.toNat < d.dutyTarget.toNat) (h : d.rampUpPeriod.toNat ≤ d.rampUpCnt.toNat + 1) :
    (rampUp raiseDuty d).rampUpCnt.toNat = 0 ∧ (rampUp raiseDuty d).duty.toNat = d.duty.toNat + 1 := by
  have hfit : d.duty.toNat + 1 < 2 ^ 8 := Nat.lt_of_le_of_lt hlt d.dutyTarget.isLt
  rw [rampUp_of_ge h]
  exact ⟨rfl, sat_toNat_of_lt 8 _ hfit⟩

/-- Below FW_MAX the offset goes up by one (rule R207). -/
theorem raiseFw_of_lt {fwMax : Nat} (h : d.fwAngle.toNat < fwMax) :
    raiseFw fwMax d = { d with fwAngle := sat 8 (d.fwAngle.toNat + 1) } :=
  if_pos h

/-- At FW_MAX nothing is raised (rule R207). -/
theorem raiseFw_of_ge {fwMax : Nat} (h : fwMax ≤ d.fwAngle.toNat) : raiseFw fwMax d = d :=
  if_neg (Nat.not_lt.mpr h)

/-- The raise of the offset writes nothing else (rule R207). -/
theorem raiseFw_frame (fwMax : Nat) (d : DriveState) :
    (raiseFw fwMax d).duty = d.duty ∧ (raiseFw fwMax d).rampDownCnt = d.rampDownCnt
      ∧ (raiseFw fwMax d).rampUpCnt = d.rampUpCnt := by
  rcases Nat.lt_or_ge d.fwAngle.toNat fwMax with hlt | hge
  · rw [raiseFw_of_lt hlt]
    exact ⟨rfl, rfl, rfl⟩
  · rw [raiseFw_of_ge hge]
    exact ⟨rfl, rfl, rfl⟩

/-- The offset is raised up to FW_MAX, a u8 (rule R207). -/
theorem raiseFw_fwAngle_toNat {fwMax : Nat} (hmax : fwMax < 256) (d : DriveState) :
    (raiseFw fwMax d).fwAngle.toNat = if d.fwAngle.toNat < fwMax then d.fwAngle.toNat + 1 else d.fwAngle.toNat := by
  split
  · next hlt =>
    rw [raiseFw_of_lt hlt]
    exact sat_toNat_of_lt 8 _ (by omega)
  · next hge => rw [raiseFw_of_ge (Nat.not_lt.mp hge)]

theorem rampUp_raiseFw_frame (fwMax : Nat) (d : DriveState) :
    (rampUp (raiseFw fwMax) d).duty = d.duty ∧ (rampUp (raiseFw fwMax) d).rampDownCnt = 0 := by
  refine rampUp_elim (P := fun d' => d'.duty = d.duty ∧ d'.rampDownCnt = 0) (fun _ => ⟨rfl, rfl⟩) fun d' h => ?_
  obtain ⟨hduty, hdown, -⟩ := raiseFw_frame fwMax d'
  rwa [hduty, hdown]

theorem rampUp_raiseFw_elapsed {fwMax : Nat} (hmax : fwMax < 256) (h : d.rampUpPeriod.toNat ≤ d.rampUpCnt.toNat + 1) :
    (rampUp (raiseFw fwMax) d).rampUpCnt.toNat = 0 ∧ (rampUp (raiseFw fwMax) d).fwAngle.toNat =
      if d.fwAngle.toNat < fwMax then d.fwAngle.toNat + 1 else d.fwAngle.toNat := by
  rw [rampUp_of_ge h]
  exact ⟨congrArg BitVec.toNat (raiseFw_frame _ _).2.2, raiseFw_fwAngle_toNat hmax _⟩

end Up

/-! ### The trip conditions (rules R201 to R204) -/

/-- The derived phase current, narrowed to its u16 (rule R201). -/
theorem phaseCurrent_eq (duty : U8) (ibatFilt : U16) :
    phaseCurrent duty ibatFilt = if duty.toNat = 0 then 0 else min (ibatFilt.toNat * 256 / duty.toNat) 65535 := by
  have hzero : duty = 0 ↔ duty.toNat = 0 := BitVec.toNat_eq
  simp only [phaseCurrent, hzero, sat_toNat, Nat.reducePow, Nat.reduceSub]

/-- Bit k-1 of `trip` is condition ck (rule R202). -/
theorem trip_bits_getLsbD (t : Trip) :
    t.bits.getLsbD 0 = t.c1 ∧ t.bits.getLsbD 1 = t.c2 ∧ t.bits.getLsbD 2 = t.c3 ∧ t.bits.getLsbD 3 = t.c4
      ∧ t.bits.getLsbD 4 = t.c5 ∧ t.bits.getLsbD 5 = t.c6 := by
  rcases t with ⟨_ | _, _ | _, _ | _, _ | _, _ | _, _ | _⟩ <;> decide

/-- A word of six bits is not 0 when one of them is set. -/
theorem sixBits_ne_zero_iff (v : BitVec 6) :
    v ≠ 0 ↔ v.getLsbD 0 = true ∨ v.getLsbD 1 = true ∨ v.getLsbD 2 = true ∨ v.getLsbD 3 = true ∨ v.getLsbD 4 = true
      ∨ v.getLsbD 5 = true := by
  revert v; decide

/-- A condition that holds and whose bit is in the mask forces the fast ramp (rule R204). -/
theorem trip_bits_and_ne_zero (t : Trip) (mask : BitVec 6) :
    t.bits &&& mask ≠ 0 ↔ (t.c1 = true ∧ mask.getLsbD 0 = true) ∨ (t.c2 = true ∧ mask.getLsbD 1 = true)
      ∨ (t.c3 = true ∧ mask.getLsbD 2 = true) ∨ (t.c4 = true ∧ mask.getLsbD 3 = true)
      ∨ (t.c5 = true ∧ mask.getLsbD 4 = true) ∨ (t.c6 = true ∧ mask.getLsbD 5 = true) := by
  obtain ⟨h1, h2, h3, h4, h5, h6⟩ := trip_bits_getLsbD t
  simp only [sixBits_ne_zero_iff, BitVec.getLsbD_and, Bool.and_eq_true, h1, h2, h3, h4, h5, h6]

/-- The third condition, on the phase current written out (rules R201, R203). -/
theorem trip_c3_iff (s : State) : (trip s).c3 = true ↔ s.par.phaseIMax <
    if s.drive.duty.toNat = 0 then 0 else min (s.adc.ibatFilt.toNat * 256 / s.drive.duty.toNat) 65535 := by
  simp only [trip, decide_eq_true_eq, phaseCurrent_eq]

theorem downPeriod_of_forced {s : State} (h : (trip s).bits &&& s.par.forceFastMask ≠ 0) : downPeriod s = s.par.rampDownMin :=
  if_pos h

theorem downPeriod_of_not_forced {s : State} (h : ¬(trip s).bits &&& s.par.forceFastMask ≠ 0) :
    downPeriod s = s.drive.rampDownPeriod.toNat :=
  if_neg h

/-! ### The direction of a step (rule R202) -/

theorem fwRampUp_iff (s : State) : fwRampUp s = true ↔
    s.drive.duty.toNat = s.par.dutyMax ∧ s.drive.fwEnabled = true ∧ s.adc.ibatFilt.toNat < s.drive.iTarget.toNat := by
  simp only [fwRampUp, Bool.and_eq_true, decide_eq_true_eq, and_assoc]

section Directions

variable {s : State}

/-- Outside the drive registers nothing is written, and in them only the ramp's four (rules R21, R202). -/
theorem rampStep_frame (s : State) : rampStep s = { s with drive := { s.drive with
    duty := (rampStep s).drive.duty, fwAngle := (rampStep s).drive.fwAngle,
    rampUpCnt := (rampStep s).drive.rampUpCnt, rampDownCnt := (rampStep s).drive.rampDownCnt } } :=
  congrArg s.withDrive (rampFrame_rampStep s)

/-- Any trip condition: DOWN. -/
theorem rampStep_drive_of_trip (h : (trip s).bits ≠ 0) : (rampStep s).drive = rampDown (downPeriod s) s.drive :=
  if_pos h

/-- No trip condition, below the target: UP with the duty cycle. -/
theorem rampStep_drive_of_below (h : ¬(trip s).bits ≠ 0) (hlt : s.drive.duty.toNat < s.drive.dutyTarget.toNat) :
    (rampStep s).drive = rampUp raiseDuty s.drive :=
  (if_neg h).trans (if_pos hlt)

/-- At the target, with the field-weakening condition: UP with the offset. -/
theorem rampStep_drive_of_fw (h : ¬(trip s).bits ≠ 0) (hge : s.drive.dutyTarget.toNat ≤ s.drive.duty.toNat)
    (hfw : fwRampUp s = true) : (rampStep s).drive = rampUp (raiseFw s.par.fwMax) s.drive :=
  (if_neg h).trans ((if_neg (Nat.not_lt.mpr hge)).trans (if_pos hfw))

/-- At the target, without it: HOLD. -/
theorem rampStep_drive_of_hold (h : ¬(trip s).bits ≠ 0) (hge : s.drive.dutyTarget.toNat ≤ s.drive.duty.toNat)
    (hfw : ¬fwRampUp s = true) : (rampStep s).drive = rampHold s.drive :=
  (if_neg h).trans ((if_neg (Nat.not_lt.mpr hge)).trans (if_neg hfw))

end Directions

/-! ### A held brake (rule R210) -/

/-- What a held brake has yet to take down, one unit each time the counter elapses (rule R205). -/
def rampTotal (d : DriveState) : Nat := d.duty.toNat + d.fwAngle.toNat

/-- After `k` steps DOWN at period `m`, of which `bound` were needed at first: the counter is short of its period, and what is left
takes no more than the steps that remain and those the counter has counted. -/
def Countdown (m bound k : Nat) (d : DriveState) : Prop :=
  d.rampDownCnt.toNat < m ∧ (rampTotal d = 0 ∨ rampTotal d * m + k ≤ bound + d.rampDownCnt.toNat)

section Countdown

variable {m bound k : Nat} {d : DriveState}

/-- An elapsed counter takes one unit off what is left, from either value (rule R205). -/
theorem rampTotal_rampDown_elapsed (h : m ≤ d.rampDownCnt.toNat + 1) : rampTotal (rampDown m d) = rampTotal d - 1 := by
  obtain ⟨-, hfw, hduty⟩ := rampDown_elapsed h
  simp only [rampTotal, hfw, hduty]
  split <;> omega

/-- A step DOWN is one step of the countdown, whether it only counts or takes a unit off. -/
theorem countdown_rampDown (hm : m ≤ 255) (h : Countdown m bound k d) : Countdown m bound (k + 1) (rampDown m d) := by
  obtain ⟨hcnt, hleft⟩ := h
  rcases Nat.lt_or_ge (d.rampDownCnt.toNat + 1) m with hlt | hge
  · obtain ⟨hcnt', hduty, hfw⟩ := rampDown_short hm hlt
    have htotal : rampTotal (rampDown m d) = rampTotal d := by simp only [rampTotal, hduty, hfw]
    refine ⟨hcnt' ▸ hlt, hleft.imp htotal.trans fun hsteps => ?_⟩
    rw [htotal, hcnt']
    omega
  · have hcnt' := (rampDown_elapsed hge).1
    have htotal := rampTotal_rampDown_elapsed hge
    refine ⟨by omega, ?_⟩
    rw [htotal, hcnt']
    rcases hleft with hzero | hsteps
    · exact .inl (by omega)
    · cases htot : rampTotal d with
      | zero => exact .inl rfl
      | succ n =>
        rw [htot, Nat.succ_mul] at hsteps
        exact .inr (by simp only [Nat.add_sub_cancel]; omega)

/-- Once the steps of the bound are done nothing is left. -/
theorem Countdown.done (h : Countdown m bound k d) (hk : bound ≤ k) : d.duty.toNat = 0 ∧ d.fwAngle.toNat = 0 := by
  obtain ⟨hcnt, hleft⟩ := h
  have hzero : rampTotal d = 0 := hleft.elim id fun hsteps =>
    Nat.eq_zero_of_not_pos fun hpos => absurd (Nat.le_mul_of_pos_left m hpos) (by omega)
  simp only [rampTotal] at hzero
  omega

/-- A countdown depends on the two values and the down counter alone. -/
theorem Countdown.congr {d' : DriveState} (h : Countdown m bound k d) (hduty : d'.duty = d.duty)
    (hfw : d'.fwAngle = d.fwAngle) (hcnt : d'.rampDownCnt = d.rampDownCnt) : Countdown m bound k d' := by
  simpa only [Countdown, rampTotal, hduty, hfw, hcnt] using h

end Countdown

/-- With the brake in the mask, an engaged brake is a step DOWN at the fastest period (rules R202, R204). -/
theorem rampStep_drive_of_brake {s : State} (hbrake : s.adc.brake = true) (hmask : s.par.forceFastMask.getLsbD 5 = true) :
    (rampStep s).drive = rampDown s.par.rampDownMin s.drive := by
  have hc6 : (trip s).c6 = true := hbrake
  have htrip : (trip s).bits ≠ 0 := by simp only [trip_bits_ne_zero, hc6, or_true]
  have hforced : (trip s).bits &&& s.par.forceFastMask ≠ 0 := by
    simp only [trip_bits_and_ne_zero, hc6, hmask, and_self, or_true]
  rw [rampStep_drive_of_trip htrip, downPeriod_of_forced hforced]

/-- PWM_RISING latches the brake and steps the ramp on it; the sub-operations before the ramp leave the drive registers (rule R103). -/
theorem exec_pwmRising_drive_of_brake {v i : U12} {whl : Bool} {pas : U2} {s t : State}
    (h : exec (.pwmRising v i true whl pas) s = .next t) (hmask : s.par.forceFastMask.getLsbD 5 = true) :
    t.drive = rampDown s.par.rampDownMin s.drive := by
  obtain ⟨-, -, -, -, -, rfl⟩ := subRun_of_pwmRising h
  exact rampStep_drive_of_brake (s := whlStep whl (cadStep pas (pinLatch v true (ibatFilter i s)))) rfl hmask

end Sys2Proof.Laws

namespace Sys2Proof.Settled

open Sys2Proof.Laws Sys2Proof.Machine

/-- Settles O31: the direction by the trip bits, the target and the field-weakening condition, each direction by its counter. -/
theorem rampStep : Obligations.RampStep := by
  intro s hw
  refine ⟨Machine.rampStep s, rfl, rampStep_frame s, (trip s).c1 = true, (trip s).c2 = true, (trip s).c3 = true,
    (trip s).c4 = true, (trip s).c5 = true, (trip s).c6 = true, (trip s).bits &&& s.par.forceFastMask ≠ 0, downPeriod s,
    decide_eq_true_iff, decide_eq_true_iff, trip_c3_iff s, decide_eq_true_iff, decide_eq_true_iff, Iff.rfl,
    trip_bits_and_ne_zero _ _, downPeriod_of_forced, downPeriod_of_not_forced, fun htrip => ?_, fun hnone => ?_⟩
  · rw [rampStep_drive_of_trip ((trip_bits_ne_zero _).mpr htrip)]
    exact ⟨congrArg BitVec.toNat (rampDown_rampUpCnt _ _), rampDown_short (downPeriod_le hw), fun hge => rampDown_elapsed hge⟩
  · have hbits := mt (trip_bits_ne_zero (trip s)).mp hnone
    refine ⟨fun hlt => ?_, fun hge => ?_⟩
    · rw [rampStep_drive_of_below hbits hlt]
      obtain ⟨hdown, hfw⟩ := rampUp_raiseDuty_frame s.drive
      refine ⟨congrArg BitVec.toNat hdown, hfw, fun hshort => ?_, rampUp_raiseDuty_elapsed hlt⟩
      obtain ⟨hup, -, hduty, -⟩ := rampUp_short (raise := raiseDuty) hshort
      exact ⟨hup, hduty⟩
    · rw [← fwRampUp_iff]
      rcases em (fwRampUp s = true) with hfw | hfw
      · rw [rampStep_drive_of_fw hbits hge hfw]
        obtain ⟨hduty, hdown⟩ := rampUp_raiseFw_frame s.par.fwMax s.drive
        refine ⟨hduty, congrArg BitVec.toNat hdown,
          fun _ => ⟨fun hshort => ?_, rampUp_raiseFw_elapsed (fwMax_of_wf hw)⟩, absurd hfw⟩
        obtain ⟨hup, -, -, hangle⟩ := rampUp_short (raise := raiseFw s.par.fwMax) hshort
        exact ⟨hup, hangle⟩
      · rw [rampStep_drive_of_hold hbits hge hfw]
        exact ⟨rfl, rfl, fun h => absurd h hfw, fun _ => ⟨rfl, rfl⟩⟩

/-- Settles O57: the countdown from `(duty + fw_angle) * RAMP_DOWN_MIN` steps, by induction on the steps. -/
theorem brakeRampsToZero : Obligations.BrakeRampsToZero := by
  intro run post v i whl pas p hw hmask hpar hstep hkeep hcnt0
  obtain ⟨hpos, hle⟩ := rampDownMin_of_wf hw
  have hcount : ∀ k, Countdown p.rampDownMin (rampTotal (run 0).drive * p.rampDownMin) k (run k).drive := by
    intro k
    induction k with
    | zero => exact ⟨by rw [hcnt0]; exact hpos, .inr (Nat.le_add_right _ _)⟩
    | succ k ih =>
      have hpost : (post k).drive = rampDown p.rampDownMin (run k).drive := by
        rw [← hpar k] at hmask ⊢
        exact exec_pwmRising_drive_of_brake (hstep k) hmask
      obtain ⟨hduty, hfw, hcnt⟩ := hkeep k
      have hdown := countdown_rampDown hle ih
      rw [← hpost] at hdown
      exact hdown.congr hduty hfw hcnt
  exact fun k hk => (hcount k).done hk

end Sys2Proof.Settled
end

section
/-! PROOFS. CAD_STEP (`44_cadence_wheel_speed.md`, rules R241 to R249): what a forward transition writes in each of its three cases, and
what the counters do with and without the stop timeout. -/

namespace Sys2Proof.Laws

open Sys2Proof.Machine

/-! ### Saturated counters -/

/-- A counter register counts on, up to its largest value (rule R249). -/
theorem sat_succ_toNat (v : U16) : (sat 16 (v.toNat + 1)).toNat = min (v.toNat + 1) 65535 := sat_toNat 16 _

/-! ### The transition (rules R242 to R247) -/

/-- A change of the pins is forward from the one old state of the table, and backward from the others (rule R242). -/
theorem pasClass_eq_iff (p : Params) (old new : U2) :
    (pasClass p old new = .fwd ↔ new ≠ old ∧ p.pasPrev new = old)
      ∧ (pasClass p old new = .bwd ↔ new ≠ old ∧ p.pasPrev new ≠ old) := by
  unfold pasClass
  split
  · simp [*]
  · split <;> simp [*]

section Transition

variable {p : Params} {pas : U2} {c : CadenceState}

theorem cadTransition_of_same (h : pasClass p c.pasOld pas = .same) : cadTransition p pas c = c := by
  simp only [cadTransition, h]

theorem cadTransition_of_fwd (h : pasClass p c.pasOld pas = .fwd) :
    cadTransition p pas c = { cadForward p pas c with cadStopCnt := 0, pasOld := pas } := by
  simp only [cadTransition, h]

theorem cadTransition_of_bwd (h : pasClass p c.pasOld pas = .bwd) :
    cadTransition p pas c = { cadBackward c with cadStopCnt := 0, pasOld := pas } := by
  simp only [cadTransition, h]

/-- Back in the reference state: the interval is measured (rule R245). -/
theorem cadForward_of_ref (h : c.cadRef = some pas) :
    cadForward p pas c =
      { c with cadStopMin := sat 16 (c.cadStopMinAdj.toNat + p.cadSchmitt), cadTicks := c.cadCounter, cadCounter := 0 } := by
  simp [cadForward, h]

/-- The first transition sets the reference (rule R244). -/
theorem cadForward_of_noRef (h : c.cadRef = none) :
    cadForward p pas c =
      { c with cadStopMin := sat 16 (c.cadStopMinAdj.toNat + p.cadSchmitt), cadRef := some pas, cadCounter := 0 } := by
  simp [cadForward, h]

/-- Into another state than the reference: the startup cadence, where none is measured yet (rule R246). -/
theorem cadForward_of_otherRef (hnone : c.cadRef ≠ none) (hpas : c.cadRef ≠ some pas) :
    cadForward p pas c =
      { c with
        cadStopMin := sat 16 (c.cadStopMinAdj.toNat + p.cadSchmitt),
        cadTicks := if c.cadTicks = 0 then sat 16 p.cadTicksStartup else c.cadTicks } := by
  simp only [cadForward, if_neg hnone, if_neg hpas]
  split <;> rfl

/-- Every forward transition latches the stop timeout (rule R247). -/
theorem cadForward_cadStopMin (p : Params) (pas : U2) (c : CadenceState) :
    (cadForward p pas c).cadStopMin = sat 16 (c.cadStopMinAdj.toNat + p.cadSchmitt) := by
  by_cases hnone : c.cadRef = none
  · rw [cadForward_of_noRef hnone]
  · by_cases hpas : c.cadRef = some pas
    · rw [cadForward_of_ref hpas]
    · rw [cadForward_of_otherRef hnone hpas]

/-- After a forward transition there is a reference (rules R244 to R246). -/
theorem cadForward_cadRef_ne_none (p : Params) (pas : U2) (c : CadenceState) : (cadForward p pas c).cadRef ≠ none := by
  by_cases hnone : c.cadRef = none
  · rw [cadForward_of_noRef hnone]; exact Option.some_ne_none pas
  · by_cases hpas : c.cadRef = some pas
    · rw [cadForward_of_ref hpas]; exact hnone
    · rw [cadForward_of_otherRef hnone hpas]; exact hnone

/-- A change of the pins restarts the stop counter (rule R248). -/
theorem cadTransition_cadStopCnt (p : Params) (pas : U2) (c : CadenceState) :
    (cadTransition p pas c).cadStopCnt = if pas = c.pasOld then c.cadStopCnt else 0 := by
  cases hclass : pasClass p c.pasOld pas with
  | same => rw [cadTransition_of_same hclass, if_pos ((pasClass_eq_same_iff _ _ _).mp hclass)]
  | fwd => rw [cadTransition_of_fwd hclass, if_neg ((pasClass_eq_iff _ _ _).1.mp hclass).1]
  | bwd => rw [cadTransition_of_bwd hclass, if_neg ((pasClass_eq_iff _ _ _).2.mp hclass).1]

end Transition

/-! ### The counters (rules R241, R248, R249) -/

/-- The two counters of a step on which the stop timeout does not elapse. -/
def cadCount (c : CadenceState) : CadenceState :=
  { c with
    cadStopCnt := sat 16 (c.cadStopCnt.toNat + 1),
    cadCounter := if c.cadRef = none then c.cadCounter else sat 16 (c.cadCounter.toNat + 1) }

section Counters

variable {c : CadenceState}

/-- The stop timeout elapses. -/
theorem cadRun_of_timeout (h : c.cadStopMin.toNat < min (c.cadStopCnt.toNat + 1) 65535) :
    cadRun c = { c with cadTicks := 0, cadStopCnt := 0, cadRef := none } := by
  rw [← sat_succ_toNat] at h
  exact if_pos h

/-- The stop timeout does not elapse. -/
theorem cadRun_of_running (h : min (c.cadStopCnt.toNat + 1) 65535 ≤ c.cadStopMin.toNat) : cadRun c = cadCount c := by
  rw [← sat_succ_toNat] at h
  refine (if_neg (Nat.not_lt.mpr h)).trans ?_
  by_cases href : c.cadRef = none
  · simp [cadCount, href]
  · simp [cadCount, href]

/-- A step that leaves the stop counter above 0 is one on which the timeout did not elapse. -/
theorem cadRun_of_cadStopCnt_ne_zero (h : (cadRun c).cadStopCnt ≠ 0) : cadRun c = cadCount c := by
  rcases Nat.lt_or_ge c.cadStopMin.toNat (min (c.cadStopCnt.toNat + 1) 65535) with hout | hrun
  · rw [cadRun_of_timeout hout] at h
    exact absurd rfl h
  · exact cadRun_of_running hrun

/-- The counters leave the stop timeout. -/
theorem cadRun_cadStopMin (c : CadenceState) : (cadRun c).cadStopMin = c.cadStopMin := by
  rcases Nat.lt_or_ge c.cadStopMin.toNat (min (c.cadStopCnt.toNat + 1) 65535) with hout | hrun
  · rw [cadRun_of_timeout hout]
  · rw [cadRun_of_running hrun]; rfl

end Counters

/-- A register of ticks is 0 where its value is. -/
theorem eq_zero_iff_toNat {w : Nat} (v : BitVec w) : v = 0 ↔ v.toNat = 0 := by
  simp [BitVec.toNat_eq]

/-- The startup cadence is above 0 and fits its register (rule R7). -/
theorem cadTicksStartup_of_wf {p : Params} (h : p.wf = true) : 0 < p.cadTicksStartup ∧ p.cadTicksStartup < 65536 := by
  simpa using check_of_wf h (c := ("CAD_TICKS_STARTUP", decide (0 < p.cadTicksStartup ∧ p.cadTicksStartup < 65536)))
    (by simp [Params.checks])

end Sys2Proof.Laws

namespace Sys2Proof.Settled

open Sys2Proof.Laws Sys2Proof.Machine

/-- Settles O28: the registers between the transition and the counters are those of `cadTransition`. -/
theorem cadStep : Obligations.CadStep := by
  intro s pas hw
  obtain ⟨hfwd, hbwd⟩ := pasClass_eq_iff s.par s.cad.pasOld pas
  obtain ⟨hadj, hrpm⟩ := cadStep_frame s.par pas s.cad
  refine ⟨Machine.cadStep pas s, rfl, by rw [← hadj, ← hrpm]; rfl, cadStep_pasOld pas s,
    pasClass s.par s.cad.pasOld pas = .fwd, pasClass s.par s.cad.pasOld pas = .bwd,
    (cadTransition s.par pas s.cad).cadStopMin.toNat, (cadTransition s.par pas s.cad).cadTicks.toNat,
    (cadTransition s.par pas s.cad).cadCounter.toNat, min ((cadTransition s.par pas s.cad).cadStopCnt.toNat + 1) 65535,
    (cadTransition s.par pas s.cad).cadRef, hfwd, hbwd, fun hfwd => ?min, fun hfwd => ?minKept, fun hbwd => ?bwd,
    fun hfwd href => ?measured, fun hfwd href => ?first, fun hfwd hnone hpas => ?other, fun hfwd hbwd => ?same, ?cnt,
    congrArg BitVec.toNat (cadRun_cadStopMin _), fun hout => ?timeout, fun hrun => ?running⟩
  case min => rw [cadTransition_of_fwd hfwd, cadForward_cadStopMin]; exact sat_toNat 16 _
  case minKept =>
    cases hclass : pasClass s.par s.cad.pasOld pas with
    | same => rw [cadTransition_of_same hclass]
    | fwd => exact absurd hclass hfwd
    | bwd => rw [cadTransition_of_bwd hclass]; rfl
  case bwd => rw [cadTransition_of_bwd hbwd]; exact ⟨rfl, rfl, rfl⟩
  case measured => rw [cadTransition_of_fwd hfwd, cadForward_of_ref href]; exact ⟨rfl, rfl, href⟩
  case first => rw [cadTransition_of_fwd hfwd, cadForward_of_noRef href]; exact ⟨rfl, rfl, rfl⟩
  case other =>
    rw [cadTransition_of_fwd hfwd, cadForward_of_otherRef hnone hpas]
    refine ⟨?_, rfl, rfl⟩
    simp only [eq_zero_iff_toNat, apply_ite BitVec.toNat, sat_toNat_of_lt 16 _ (cadTicksStartup_of_wf hw).2]
  case same =>
    have hclass : pasClass s.par s.cad.pasOld pas = .same := by
      cases hclass : pasClass s.par s.cad.pasOld pas with
      | same => rfl
      | fwd => exact absurd hclass hfwd
      | bwd => exact absurd hclass hbwd
    rw [cadTransition_of_same hclass]
    exact ⟨rfl, rfl, rfl⟩
  case cnt => rw [cadTransition_cadStopCnt, apply_ite BitVec.toNat]; rfl
  case timeout =>
    rw [show (Machine.cadStep pas s).cad = _ from cadRun_of_timeout hout]
    exact ⟨rfl, rfl, rfl, rfl⟩
  case running =>
    rw [show (Machine.cadStep pas s).cad = _ from cadRun_of_running hrun]
    refine ⟨rfl, sat_succ_toNat _, rfl, ?_⟩
    simp only [cadCount, apply_ite BitVec.toNat, sat_succ_toNat]

end Sys2Proof.Settled
end

section
/-! PROOFS. WHL_STEP (`44_cadence_wheel_speed.md`, rules R261 to R264, R266): the edge that starts an interval, the edge that ends one,
and the counter with its stop. -/

namespace Sys2Proof.Laws

open Sys2Proof.Machine

/-! ### The pin edge -/

/-- A rising edge on a stopped wheel: it starts the measurement (rule R262). -/
def FirstEdge (pin : Bool) (w : WheelState) : Prop := pin = true ∧ w.whlPinOld = false ∧ w.whlStarted = false

/-- A rising edge that ends an interval: one too short is bounce (rules R261, R263). -/
def AcceptedEdge (p : Params) (pin : Bool) (w : WheelState) : Prop :=
  pin = true ∧ w.whlPinOld = false ∧ w.whlStarted = true ∧ p.whlTicksMin ≤ w.whlCounter.toNat

section Edge

variable {p : Params} {pin : Bool} {w : WheelState}

theorem whlEdge_of_first (h : FirstEdge pin w) :
    whlEdge p pin w = { w with whlPinOld := pin, whlStarted := true, whlCounter := 0 } := by
  obtain ⟨rfl, hold, hstop⟩ := h
  simp [whlEdge, whlRising, hold, hstop]

theorem whlEdge_of_accepted (h : AcceptedEdge p pin w) :
    whlEdge p pin w =
      { w with whlPinOld := pin, whlTicks := w.whlCounter, whlCounter := 0, whlTotal := w.whlTotal + 1 } := by
  obtain ⟨rfl, hold, hrun, hmin⟩ := h
  simp [whlEdge, whlRising, hold, hrun, hmin]

/-- Any other pin level is latched and nothing else: no edge, a falling edge, or bounce. -/
theorem whlEdge_of_other (hfirst : ¬FirstEdge pin w) (hacc : ¬AcceptedEdge p pin w) :
    whlEdge p pin w = { w with whlPinOld := pin } := by
  by_cases hsame : pin = w.whlPinOld
  · simp [whlEdge, hsame]
  · cases pin with
    | false => simp [whlEdge, hsame]
    | true =>
      have hold : w.whlPinOld = false := by simpa using Ne.symm hsame
      have hrun : w.whlStarted = true := by simpa [FirstEdge, hold] using hfirst
      have hshort : ¬p.whlTicksMin ≤ w.whlCounter.toNat := by simpa [AcceptedEdge, hold, hrun] using hacc
      simp [whlEdge, whlRising, hold, hrun, hshort]

/-- An edge leaves the wheel started where it was or where it is the first. -/
theorem whlEdge_whlStarted_iff : (whlEdge p pin w).whlStarted = true ↔ w.whlStarted = true ∨ FirstEdge pin w := by
  by_cases hfirst : FirstEdge pin w
  · simp [whlEdge_of_first hfirst, hfirst]
  · by_cases hacc : AcceptedEdge p pin w
    · simp [whlEdge_of_accepted hacc, hfirst]
    · simp [whlEdge_of_other hfirst hacc, hfirst]

theorem whlEdge_whlPinOld : (whlEdge p pin w).whlPinOld = pin := by
  by_cases hfirst : FirstEdge pin w
  · rw [whlEdge_of_first hfirst]
  · by_cases hacc : AcceptedEdge p pin w
    · rw [whlEdge_of_accepted hacc]
    · rw [whlEdge_of_other hfirst hacc]

end Edge

/-! ### The counter and the stop -/

section Counter

variable {p : Params} {w : WheelState}

theorem whlRun_of_stopped (h : w.whlStarted = false) : whlRun p w = w := by
  simp [whlRun, h]

theorem whlRun_of_running (h : w.whlStarted = true) (hlt : w.whlCounter.toNat < p.whlTicksMax) :
    whlRun p w = { w with whlCounter := sat 16 (w.whlCounter.toNat + 1) } := by
  simp [whlRun, h, hlt]

/-- No edge came in time: the wheel has stopped (rule R264). -/
theorem whlRun_of_elapsed (h : w.whlStarted = true) (hge : p.whlTicksMax ≤ w.whlCounter.toNat) :
    whlRun p w = { w with whlTicks := 0, whlCounter := 0, whlStarted := false } := by
  simp [whlRun, h, Nat.not_lt.mpr hge]

/-- The counter leaves the pin level and the count of turns. -/
theorem whlRun_frame (p : Params) (w : WheelState) :
    (whlRun p w).whlPinOld = w.whlPinOld ∧ (whlRun p w).whlTotal = w.whlTotal := by
  unfold whlRun
  split
  · exact ⟨rfl, rfl⟩
  · split <;> exact ⟨rfl, rfl⟩

end Counter

/-- The longest interval fits the counter (rule R7). -/
theorem whlTicksMax_of_wf {p : Params} (h : p.wf = true) : p.whlTicksMax < 65536 ∧ p.whlTicksMin < p.whlTicksMax := by
  simpa using check_of_wf h (c := ("WHL_TICKS_MAX", decide (p.whlTicksMax < 65536 ∧ p.whlTicksMin < p.whlTicksMax)))
    (by simp [Params.checks])

end Sys2Proof.Laws

namespace Sys2Proof.Settled

open Sys2Proof.Laws Sys2Proof.Machine

/-- Settles O30: the counter and the ticks between the edge and the counter step are those of `whlEdge`. -/
theorem whlStep : Obligations.WhlStep := by
  intro s pin hw
  obtain ⟨hpin, htotal⟩ := whlRun_frame s.par (whlEdge s.par pin s.whl)
  have hstarted := whlEdge_whlStarted_iff (p := s.par) (pin := pin) (w := s.whl)
  have htotal' : (Machine.whlStep pin s).whl.whlTotal = (whlEdge s.par pin s.whl).whlTotal := htotal
  refine ⟨Machine.whlStep pin s, rfl, by rw [← whlStep_frame s.par pin s.whl]; rfl, hpin.trans whlEdge_whlPinOld,
    FirstEdge pin s.whl, AcceptedEdge s.par pin s.whl, (whlEdge s.par pin s.whl).whlCounter.toNat,
    (whlEdge s.par pin s.whl).whlTicks.toNat, Iff.rfl, Iff.rfl, fun hedge => ?edge, fun hother => ?other,
    fun hacc => ?accepted, fun hacc => ?kept, fun hrun hlt => ?running, fun hrun hge => ?elapsed, fun hstop => ?stopped⟩
  case edge =>
    rcases hedge with hfirst | hacc
    · rw [whlEdge_of_first hfirst]; rfl
    · rw [whlEdge_of_accepted hacc]; rfl
  case other =>
    obtain ⟨hfirst, hacc⟩ := not_or.mp hother
    rw [whlEdge_of_other hfirst hacc]
  case accepted =>
    rw [htotal', whlEdge_of_accepted hacc]
    exact ⟨rfl, BitVec.toNat_add _ _⟩
  case kept =>
    rw [htotal']
    by_cases hfirst : FirstEdge pin s.whl
    · rw [whlEdge_of_first hfirst]; exact ⟨rfl, rfl⟩
    · rw [whlEdge_of_other hfirst hacc]; exact ⟨rfl, rfl⟩
  case running =>
    rw [show (Machine.whlStep pin s).whl = _ from whlRun_of_running (hstarted.mpr hrun) hlt]
    exact ⟨hstarted.mpr hrun, sat_toNat_of_lt 16 _ ((Nat.succ_le_of_lt hlt).trans_lt (whlTicksMax_of_wf hw).1), rfl⟩
  case elapsed =>
    rw [show (Machine.whlStep pin s).whl = _ from whlRun_of_elapsed (hstarted.mpr hrun) hge]
    exact ⟨rfl, rfl, rfl⟩
  case stopped =>
    obtain ⟨hidle, hfirst⟩ := not_or.mp hstop
    have hacc : ¬AcceptedEdge s.par pin s.whl := fun ⟨_, _, hrun, _⟩ => hidle hrun
    rw [show (Machine.whlStep pin s).whl = _ from whlRun_of_stopped (Bool.eq_false_of_not_eq_true (mt hstarted.mp hstop)),
      whlEdge_of_other hfirst hacc]
    exact ⟨Bool.eq_false_of_not_eq_true hidle, rfl, rfl⟩

end Sys2Proof.Settled
end

section
/-! PROOFS. The sensor registers stay consistent: a cadence has its reference (rule R252 (iii)), the wheel counter and its ticks their
bounds (rule R264), the torque registers theirs (rules R281 to R283, R289). -/

namespace Sys2Proof.Laws

open Sys2Proof.Machine

/-! ### Cadence -/

/-- Cadence ticks have a reference (rule R252 (iii)). -/
def CadenceInv (c : CadenceState) : Prop := c.cadTicks.toNat ≠ 0 → c.cadRef ≠ none

theorem cadenceInv_cadTransition (p : Params) (pas : U2) {c : CadenceState} (h : CadenceInv c) :
    CadenceInv (cadTransition p pas c) := by
  cases hclass : pasClass p c.pasOld pas with
  | same => rwa [cadTransition_of_same hclass]
  | fwd =>
    rw [cadTransition_of_fwd hclass]
    exact fun _ => cadForward_cadRef_ne_none p pas c
  | bwd =>
    rw [cadTransition_of_bwd hclass]
    exact fun hticks => absurd rfl hticks

theorem cadenceInv_cadRun {c : CadenceState} (h : CadenceInv c) : CadenceInv (cadRun c) := by
  rcases Nat.lt_or_ge c.cadStopMin.toNat (min (c.cadStopCnt.toNat + 1) 65535) with hout | hrun
  · rw [cadRun_of_timeout hout]
    exact fun hticks => absurd rfl hticks
  · rw [cadRun_of_running hrun]
    exact h

/-! ### Wheel speed -/

/-- The counter and an accepted interval are within their bounds, and a stopped wheel has neither (rule R264). -/
def WheelInv (p : Params) (w : WheelState) : Prop :=
  w.whlCounter.toNat ≤ p.whlTicksMax
    ∧ (w.whlTicks.toNat ≠ 0 → p.whlTicksMin ≤ w.whlTicks.toNat ∧ w.whlTicks.toNat ≤ p.whlTicksMax)
    ∧ (w.whlStarted = false → w.whlCounter.toNat = 0 ∧ w.whlTicks.toNat = 0)

section Wheel

variable {p : Params} {w : WheelState}

/-- An accepted interval is no shorter than the minimum, and the counter it is read from no longer than the maximum. -/
theorem wheelInv_whlEdge (pin : Bool) (h : WheelInv p w) : WheelInv p (whlEdge p pin w) := by
  obtain ⟨hcounter, hticks, hstop⟩ := id h
  by_cases hfirst : FirstEdge pin w
  · rw [whlEdge_of_first hfirst]
    exact ⟨Nat.zero_le _, hticks, nofun⟩
  · by_cases hacc : AcceptedEdge p pin w
    · rw [whlEdge_of_accepted hacc]
      obtain ⟨-, -, hrun, hmin⟩ := hacc
      exact ⟨Nat.zero_le _, fun _ => ⟨hmin, hcounter⟩, fun hidle => nomatch hrun.symm.trans hidle⟩
    · rw [whlEdge_of_other hfirst hacc]
      exact h

/-- The counter counts on only below the maximum. -/
theorem wheelInv_whlRun (h : WheelInv p w) : WheelInv p (whlRun p w) := by
  obtain ⟨-, hticks, -⟩ := id h
  cases hstart : w.whlStarted with
  | false => rwa [whlRun_of_stopped hstart]
  | true =>
    rcases Nat.lt_or_ge w.whlCounter.toNat p.whlTicksMax with hlt | hge
    · rw [whlRun_of_running hstart hlt]
      exact ⟨(sat_toNat_le 16 _).trans hlt, hticks, fun hidle => nomatch hstart.symm.trans hidle⟩
    · rw [whlRun_of_elapsed hstart hge]
      exact ⟨Nat.zero_le _, fun hne => absurd rfl hne, fun _ => ⟨rfl, rfl⟩⟩

end Wheel

/-! ### Torque -/

/-- The zeroing window is counted up to its length, no torque is reported within it, and a delta is no more than a sample (rules R281 to
R283, R289). -/
def TorqueInv (p : Params) (t : TorqueState) : Prop :=
  t.tqBootCnt.toNat ≤ p.tqZeroTicks
    ∧ (t.tqBootCnt.toNat < p.tqZeroTicks → t.tqDelta.toNat = 0 ∧ t.torqueX100.toNat = 0)
    ∧ t.tqDelta.toNat ≤ p.adcTMaxSample

section Torque

variable {p : Params} {t : TorqueState} {x : Nat}

theorem torqueInv_tqWindow (h : t.tqBootCnt.toNat < p.tqZeroTicks) : TorqueInv p (tqWindow p x t) :=
  ⟨(sat_toNat_le 16 _).trans h, fun _ => ⟨rfl, rfl⟩, Nat.zero_le _⟩

theorem torqueInv_tqMeasure (cfg : CfgRec) (hx : x ≤ p.adcTMaxSample) (hclosed : ¬t.tqBootCnt.toNat < p.tqZeroTicks)
    (h : TorqueInv p t) : TorqueInv p (tqMeasure p cfg x t) := by
  obtain ⟨hboot, -, -⟩ := h
  exact ⟨hboot, fun hopen => absurd hopen hclosed, (sat_toNat_le 16 _).trans ((Nat.sub_le _ _).trans hx)⟩

end Torque

/-! ### The invariant -/

theorem sensorInv_iff (s : State) : SensorInv s ↔ CadenceInv s.cad ∧ WheelInv s.par s.whl ∧ TorqueInv s.par s.tq := Iff.rfl

/-- TQ_ACQUIRE, in the zeroing window and after it (rule R281). -/
theorem torqueInv_tqAcquire {x : U12} {s : State} (hx : x.toNat ≤ s.par.adcTMaxSample) (h : TorqueInv s.par s.tq) :
    TorqueInv s.par (tqAcquire x s).tq := by
  simp only [tqAcquire, State.withTq_tq]
  split
  · next hopen => exact torqueInv_tqWindow hopen
  · next hclosed => exact torqueInv_tqMeasure s.cfg hx hclosed h

/-- The other sub-operations write none of the registers of `SensorInv`. -/
theorem sensorInv_subOp (x : SubOp) {s : State} (ha : x.admitted s) (h : SensorInv s) : SensorInv (x.run s) := by
  obtain ⟨hcad, hwhl, htq⟩ := (sensorInv_iff s).mp h
  cases x with
  | reset => exact sensorInv_resetWith _ _ _ _
  | cadStep pas => exact ⟨cadenceInv_cadRun (cadenceInv_cadTransition s.par pas hcad), hwhl, htq⟩
  | whlStep pin => exact ⟨hcad, wheelInv_whlRun (wheelInv_whlEdge pin hwhl), htq⟩
  | tqAcquire q => exact ⟨hcad, hwhl, torqueInv_tqAcquire ((adcOk_iff _ _).mp ha) htq⟩
  | hallEdge tick hall => exact hallEdge_elim (P := SensorInv) tick hall fun _ => h
  | stallCheck tick => exact stallCheck_elim (P := SensorInv) tick (fun _ _ => h) fun _ => h
  | cmdLatch => exact cmdLatch_elim (P := SensorInv) fun _ _ _ _ _ _ _ => h
  | runPolicy => exact runPolicy_elim (P := SensorInv) fun _ _ _ _ _ => h
  | cruiseIfLatched => exact cruiseIfLatched_elim (P := SensorInv) fun _ _ _ _ _ => h
  | auxBranch a => exact auxBranch_elim (P := SensorInv) a fun _ _ => h
  | pwmGate => exact pwmGate_elim (P := SensorInv) h h fun _ => h
  | _ => exact h

end Sys2Proof.Laws

namespace Sys2Proof.Settled

open Sys2Proof.Laws

/-- Settles O11: every admitted sub-operation keeps `SensorInv`. -/
theorem sensorInvKept : Obligations.SensorInvKept := fun _ _ hs hstep =>
  step_keeps (fun _ _ h => h) (fun x _ _ ha h => sensorInv_subOp x ha h) hs hstep

end Sys2Proof.Settled
end

section
/-! PROOFS. WHL_SPEED and CAD_RPM (`44_cadence_wheel_speed.md`, rules R250, R251, R265). -/

namespace Sys2Proof.Laws

open Sys2Proof.Machine

/-- The wheel speed of an interval, none for none (rule R265). -/
theorem speedOf_toNat (p : Params) (perimeterMm whlTicks : U16) :
    (speedOf p perimeterMm whlTicks).toNat =
      if whlTicks.toNat = 0 then 0
      else min ((perimeterMm.toNat * p.pwmHz * 36) / (whlTicks.toNat * 1000)) 65535 := by
  simp only [speedOf, eq_zero_iff_toNat, apply_ite BitVec.toNat, sat_toNat]
  rfl

/-- The cadence of an interval, none for none (rule R250). -/
theorem rpmOf_toNat (p : Params) (cadTicks : U16) :
    (rpmOf p cadTicks).toNat =
      if cadTicks.toNat = 0 then 0 else min (60 * p.pwmHz / p.pasCyclesPerRev / cadTicks.toNat) 255 := by
  simp only [rpmOf, cadRpmNum, eq_zero_iff_toNat, apply_ite BitVec.toNat, sat_toNat]
  rfl

/-- Both stop timeouts fit the register (rule R7). -/
theorem cadStopTicks_of_wf {p : Params} (h : p.wf = true) : p.cadStopTicksSlow < 65536 ∧ p.cadStopTicksFast < 65536 := by
  have hslow := check_of_wf h (c := ("CAD_STOP_TICKS_SLOW", decide (0 < p.cadStopTicksSlow ∧ p.cadStopTicksSlow < 65536)))
    (by simp [Params.checks])
  have hfast := check_of_wf h (c := ("CAD_STOP_TICKS_FAST", decide (0 < p.cadStopTicksFast ∧ p.cadStopTicksFast < 65536)))
    (by simp [Params.checks])
  exact ⟨(of_decide_eq_true hslow).2, (of_decide_eq_true hfast).2⟩

/-- The adjusted timeout lies between the two of the parameter set, so its register holds it unnarrowed (rules R12, R251). -/
theorem stopMinAdjOf_toNat {p : Params} (hw : p.wf = true) (speed : U16) :
    (stopMinAdjOf p speed).toNat =
      linMap speed.toNat p.cadAdjSpeedLo p.cadAdjSpeedHi p.cadStopTicksSlow p.cadStopTicksFast := by
  obtain ⟨hslow, hfast⟩ := cadStopTicks_of_wf hw
  exact sat_toNat_of_lt 16 _ ((linMap_bounds _ _ _ _ _).2.trans_lt (max_lt hslow hfast))

end Sys2Proof.Laws

namespace Sys2Proof.Settled

open Sys2Proof.Laws

/-- Settles O35: each operation writes the values of its rule. -/
theorem speedAndCadence : Obligations.SpeedAndCadence :=
  ⟨fun _ => ⟨_, rfl, rfl, speedOf_toNat _ _ _⟩, fun _ hw => ⟨_, rfl, rfl, rpmOf_toNat _ _, stopMinAdjOf_toNat hw _⟩⟩

end Sys2Proof.Settled
end

section
/-! PROOFS. The stop of the cadence with the pins at rest (rule R252 (i)): a run of cadence steps, by induction on the steps. -/

namespace Sys2Proof.Laws

open Sys2Proof.Machine

/-- What a completed CAD_STEP leaves of the parameters and the cadence registers. -/
theorem cad_of_exec_cadStep {pas : U2} {s t : State} (h : exec (.cadStep pas) s = .next t) :
    t.par = s.par ∧ t.cad = cadRun (cadTransition s.par pas s.cad) := by
  obtain rfl : cadStep pas s = t := Host.Outcome.next.inj h
  exact ⟨rfl, rfl⟩

/-- After `k` steps with the pins at rest in state `pas` and a stop timeout of `m`: the cadence is stopped, or the stop counter has
counted at least those `k` steps and they are not more than the timeout. -/
def AtRest (pas : U2) (m k : Nat) (c : CadenceState) : Prop :=
  c.pasOld = pas ∧ c.cadStopMin.toNat = m ∧ ((c.cadTicks = 0 ∧ c.cadRef = none) ∨ (k ≤ c.cadStopCnt.toNat ∧ k ≤ m))

/-- A timeout below the largest counter value elapses before the counter saturates (rules R248, R249). -/
theorem atRest_succ (p : Params) {pas : U2} {m k : Nat} {c : CadenceState} (hm : m < 65535) (h : AtRest pas m k c) :
    AtRest pas m (k + 1) (cadRun (cadTransition p pas c)) := by
  obtain ⟨hpas, hmin, hcase⟩ := h
  rw [cadTransition_of_same ((pasClass_eq_same_iff _ _ _).mpr hpas.symm)]
  refine ⟨(cadRun_pasOld c).trans hpas, (congrArg BitVec.toNat (cadRun_cadStopMin c)).trans hmin, ?_⟩
  rcases hcase with ⟨hticks, href⟩ | ⟨hcnt, -⟩
  · exact .inl (cadRun_stopped hticks href)
  · rcases Nat.lt_or_ge c.cadStopMin.toNat (min (c.cadStopCnt.toNat + 1) 65535) with hout | hrun
    · rw [cadRun_of_timeout hout]
      exact .inl ⟨rfl, rfl⟩
    · rw [cadRun_of_running hrun]
      have hcnt' : (cadCount c).cadStopCnt.toNat = min (c.cadStopCnt.toNat + 1) 65535 := sat_succ_toNat _
      exact .inr (by omega)

end Sys2Proof.Laws

namespace Sys2Proof.Settled

open Sys2Proof.Laws

/-- Settles O58: more steps than the timeout cannot have been counted, so the cadence is stopped. -/
theorem cadenceStops : Obligations.CadenceStops := by
  intro run pas hpas hm hstep k hk
  have hrest : ∀ k, AtRest pas (run 0).cad.cadStopMin.toNat k (run k).cad := by
    intro k
    induction k with
    | zero => exact ⟨hpas, rfl, .inr ⟨Nat.zero_le _, Nat.zero_le _⟩⟩
    | succ k ih =>
      rw [(cad_of_exec_cadStep (hstep k)).2]
      exact atRest_succ _ hm ih
  obtain ⟨-, -, ⟨hticks, href⟩ | ⟨-, hle⟩⟩ := hrest k
  · exact ⟨congrArg BitVec.toNat hticks, href⟩
  · exact absurd hk (by omega)

end Sys2Proof.Settled
end

section
/-! PROOFS. The start of the cadence (rules R244 to R246, R252 (iv)): no reference before the first forward transition, the startup cadence
in the first turn of the pins, the measured one in the second; each phase by induction on the steps of a run. -/

namespace Sys2Proof.Laws

open Sys2Proof.Machine

/-! ### The forward cycle (rule R242) -/

/-- Four different states of two pins are all of them. -/
theorem u2_mem_of_distinct : ∀ a b c x : U2,
    a ≠ 0 → b ≠ 0 → b ≠ a → c ≠ 0 → c ≠ a → c ≠ b → x = 0 ∨ x = a ∨ x = b ∨ x = c := by decide

/-- Going back along the forward cycle, a state is met again at the fourth step and not before (rules R7, R242). -/
theorem pasPrev_cycle {p : Params} (h : p.wf = true) (x : U2) :
    p.pasPrev x ≠ x ∧ p.pasPrev (p.pasPrev x) ≠ x ∧ p.pasPrev (p.pasPrev (p.pasPrev x)) ≠ x
      ∧ p.pasPrev (p.pasPrev (p.pasPrev (p.pasPrev x))) = x := by
  have hcycle : p.pasIsCycle = true :=
    check_of_wf h (c := ("PAS_PREV_VALID", p.pasIsCycle)) (by simp [Params.checks])
  simp only [Params.pasIsCycle, Bool.and_eq_true, decide_eq_true_eq] at hcycle
  obtain ⟨⟨⟨⟨⟨⟨ha, hb⟩, hba⟩, hc⟩, hca⟩, hcb⟩, hclose⟩ := hcycle
  generalize hfa : p.pasPrev 0 = a at *
  generalize hfb : p.pasPrev a = b at *
  generalize hfc : p.pasPrev b = c at *
  rcases u2_mem_of_distinct a b c x ha hb hba hc hca hcb with rfl | rfl | rfl | rfl
  · rw [hfa, hfb, hfc, hclose]; exact ⟨ha, hb, hc, rfl⟩
  · rw [hfb, hfc, hclose, hfa]; exact ⟨hba, hca, ha.symm, rfl⟩
  · rw [hfc, hclose, hfa, hfb]; exact ⟨hcb, hb.symm, hba.symm, rfl⟩
  · rw [hclose, hfa, hfb, hfc]; exact ⟨hc.symm, hca.symm, hcb.symm, rfl⟩

theorem pasPrev_iterate_ne {p : Params} (h : p.wf = true) (x : U2) {j : Nat} (hpos : 0 < j) (hlt : j < 4) :
    p.pasPrev^[j] x ≠ x := by
  obtain ⟨hone, htwo, hthree, -⟩ := pasPrev_cycle h x
  interval_cases j
  · exact hone
  · exact htwo
  · exact hthree

/-! ### The phases of a start -/

/-- Before the first forward transition. -/
def Unreferenced (c : CadenceState) : Prop := c.cadRef = none ∧ c.cadTicks = 0

/-- The pins are `j` forward transitions past the reference state `r`. -/
def PastRef (p : Params) (r : U2) (j : Nat) (c : CadenceState) : Prop := c.cadRef = some r ∧ p.pasPrev^[j] c.pasOld = r

/-- The first turn, `age` steps after the reference was set: the counter has counted them, and the ticks are the startup value from
the second transition on. -/
def FirstTurn (p : Params) (r : U2) (j age : Nat) (c : CadenceState) : Prop :=
  PastRef p r j c ∧ c.cadCounter.toNat = min age 65535 ∧ c.cadTicks.toNat = if j = 0 then 0 else p.cadTicksStartup

/-- The second turn, with `v` the interval measured at its beginning. -/
def SecondTurn (p : Params) (r : U2) (j v : Nat) (c : CadenceState) : Prop := PastRef p r j c ∧ c.cadTicks.toNat = v

section Phases

variable {p : Params} {pas r : U2} {j age v : Nat} {c : CadenceState}

/-! The counters of a step. -/

theorem firstTurn_cadCount (h : FirstTurn p r j age c) : FirstTurn p r j (age + 1) (cadCount c) := by
  obtain ⟨⟨href, hpos⟩, hcounter, hticks⟩ := h
  refine ⟨⟨href, hpos⟩, ?_, hticks⟩
  simp only [cadCount, href, reduceCtorEq, if_false, sat_succ_toNat]
  omega

/-! A forward transition into `pas`. -/

variable (hfwd : pasClass p c.pasOld pas = .fwd)
include hfwd

theorem PastRef.pasPrev_iterate_succ (h : PastRef p r j c) : p.pasPrev^[j + 1] pas = r := by
  rw [Function.iterate_succ_apply, ((pasClass_eq_iff _ _ _).1.mp hfwd).2, h.2]

/-- Within a turn the reference state is not met. -/
theorem PastRef.other (hw : p.wf = true) (hj : j < 3) (h : PastRef p r j c) : c.cadRef ≠ none ∧ c.cadRef ≠ some pas := by
  have hback := h.pasPrev_iterate_succ hfwd
  rw [h.1]
  refine ⟨nofun, fun heq => ?_⟩
  rw [Option.some.inj heq] at hback
  exact pasPrev_iterate_ne hw pas (Nat.succ_pos j) (by omega) hback

/-- The first forward transition sets the reference (rule R244). -/
theorem Unreferenced.turn (h : Unreferenced c) : FirstTurn p pas 0 0 (cadTransition p pas c) := by
  obtain ⟨href, hticks⟩ := h
  rw [cadTransition_of_fwd hfwd, cadForward_of_noRef href]
  exact ⟨⟨rfl, rfl⟩, rfl, congrArg BitVec.toNat hticks⟩

/-- The second to fourth give the startup cadence (rule R246). -/
theorem FirstTurn.turn (hw : p.wf = true) (hj : j < 3) (h : FirstTurn p r j age c) :
    FirstTurn p r (j + 1) age (cadTransition p pas c) := by
  obtain ⟨hpast, hcounter, hticks⟩ := h
  obtain ⟨hnone, hpas⟩ := hpast.other hfwd hw hj
  rw [cadTransition_of_fwd hfwd, cadForward_of_otherRef hnone hpas]
  refine ⟨⟨hpast.1, hpast.pasPrev_iterate_succ hfwd⟩, hcounter, ?_⟩
  simp only [eq_zero_iff_toNat, apply_ite BitVec.toNat, sat_toNat_of_lt 16 _ (cadTicksStartup_of_wf hw).2, hticks]
  by_cases hzero : j = 0 <;> simp [hzero]

/-- The fifth is into the reference state again, and measures the turn (rule R245). -/
theorem FirstTurn.measured (hw : p.wf = true) (h : FirstTurn p r 3 age c) :
    pas = r ∧ SecondTurn p r 0 (min age 65535) (cadTransition p pas c) := by
  obtain ⟨hpast, hcounter, -⟩ := h
  obtain ⟨-, -, -, hcycle⟩ := pasPrev_cycle hw pas
  obtain rfl : pas = r := hcycle.symm.trans (hpast.pasPrev_iterate_succ hfwd)
  rw [cadTransition_of_fwd hfwd, cadForward_of_ref hpast.1]
  exact ⟨rfl, ⟨hpast.1, rfl⟩, hcounter⟩

/-- The sixth to eighth keep what was measured (rule R246). -/
theorem SecondTurn.turn (hw : p.wf = true) (hv : v ≠ 0) (hj : j < 3) (h : SecondTurn p r j v c) :
    SecondTurn p r (j + 1) v (cadTransition p pas c) := by
  obtain ⟨hpast, hticks⟩ := h
  obtain ⟨hnone, hpas⟩ := hpast.other hfwd hw hj
  have hne : c.cadTicks ≠ 0 := fun hzero => hv (hticks.symm.trans (congrArg BitVec.toNat hzero))
  rw [cadTransition_of_fwd hfwd, cadForward_of_otherRef hnone hpas, if_neg hne]
  exact ⟨⟨hpast.1, hpast.pasPrev_iterate_succ hfwd⟩, hticks⟩

end Phases

/-! ### Runs -/

/-- `n` steps on the pins `pas` without a timeout, with no transition or a forward one each; `count k` is the forward transitions of
the first `k`. -/
structure Pedalling (p : Params) (cad : Nat → CadenceState) (pas : Nat → U2) (count : Nat → Nat) (n : Nat) : Prop where
  step : ∀ k < n, cad (k + 1) = cadCount (cadTransition p (pas k) (cad k))
  turn : ∀ k < n, (pasClass p (cad k).pasOld (pas k) = .same ∧ count (k + 1) = count k)
    ∨ (pasClass p (cad k).pasOld (pas k) = .fwd ∧ count (k + 1) = count k + 1)

section Runs

variable {p : Params} {cad : Nat → CadenceState} {pas : Nat → U2} {count : Nat → Nat} {n : Nat} (h : Pedalling p cad pas count n)
include h

/-- A step without a transition runs the counters alone. -/
theorem Pedalling.step_of_same {k : Nat} (hk : k < n) (hsame : pasClass p (cad k).pasOld (pas k) = .same) :
    cad (k + 1) = cadCount (cad k) := by
  rw [h.step k hk, cadTransition_of_same hsame]

theorem Pedalling.unreferenced (h0 : Unreferenced (cad 0)) : ∀ k ≤ n, count k = 0 → Unreferenced (cad k) := by
  intro k hk hzero
  induction k with
  | zero => exact h0
  | succ k ih =>
    rcases h.turn k hk with ⟨hsame, hcount⟩ | ⟨-, hcount⟩
    · rw [h.step_of_same hk hsame]
      exact ih (by omega) (by omega)
    · omega

/-- The step `a` is the first transition; up to the fourth the run is in its first turn. -/
theorem Pedalling.firstTurn (hw : p.wf = true) {a : Nat} (ha : a < n) (hbefore : Unreferenced (cad a)) (hzero : count a = 0)
    (hone : count (a + 1) = 1) {k : Nat} (hak : a < k) (hk : k ≤ n) :
    ∃ j, count k = j + 1 ∧ (j < 4 → FirstTurn p (pas a) j (k - a) (cad k)) := by
  induction k, hak using Nat.le_induction with
  | base =>
    obtain ⟨hfwd, -⟩ := (h.turn a ha).resolve_left fun ⟨_, hcount⟩ => by omega
    refine ⟨0, hone, fun _ => ?_⟩
    rw [h.step a ha, Nat.succ_eq_add_one, Nat.add_sub_cancel_left]
    exact firstTurn_cadCount (hbefore.turn hfwd)
  | succ k hak ih =>
    obtain ⟨j, hj, hturn⟩ := ih (by omega)
    rw [Nat.sub_add_comm (by omega)]
    rcases h.turn k hk with ⟨hsame, hcount⟩ | ⟨hfwd, hcount⟩
    · refine ⟨j, hcount.trans hj, fun hlt => ?_⟩
      rw [h.step_of_same hk hsame]
      exact firstTurn_cadCount (hturn hlt)
    · refine ⟨j + 1, by rw [hcount, hj], fun hlt => ?_⟩
      rw [h.step k hk]
      exact firstTurn_cadCount ((hturn (by omega)).turn hfwd hw (by omega))

/-- The step `b` is the fifth transition, back into the reference state; up to the eighth the run is in its second turn. -/
theorem Pedalling.secondTurn (hw : p.wf = true) {r : U2} {age b : Nat} (hb : b < n) (hage : age ≠ 0)
    (hturn : FirstTurn p r 3 age (cad b)) (hfour : count b = 4) (hfive : count (b + 1) = 5) :
    pas b = r ∧ ∀ k, b < k → k ≤ n → ∃ j, count k = j + 5 ∧ (j < 4 → SecondTurn p r j (min age 65535) (cad k)) := by
  obtain ⟨hfwd, -⟩ := (h.turn b hb).resolve_left fun ⟨_, hcount⟩ => by omega
  obtain ⟨hpas, hbegin⟩ := hturn.measured hfwd hw
  refine ⟨hpas, fun k hbk hk => ?_⟩
  induction k, hbk using Nat.le_induction with
  | base =>
    refine ⟨0, hfive, fun _ => ?_⟩
    rw [h.step b hb]
    exact hbegin
  | succ k _ ih =>
    obtain ⟨j, hj, hturn⟩ := ih (by omega)
    rcases h.turn k hk with ⟨hsame, hcount⟩ | ⟨hfwd, hcount⟩
    · refine ⟨j, hcount.trans hj, fun hlt => ?_⟩
      rw [h.step_of_same hk hsame]
      exact hturn hlt
    · refine ⟨j + 1, by omega, fun hlt => ?_⟩
      rw [h.step k hk]
      exact (hturn (by omega)).turn hfwd hw (by omega) (by omega)

end Runs

/-! ### Counts -/

section Counts

variable {count : Nat → Nat}

/-- A count that rises by at most one a step reaches 1 from 0. -/
theorem exists_first_of_count_pos (hzero : count 0 = 0) (hle : ∀ k, count (k + 1) ≤ count k + 1) {n : Nat} (hpos : 0 < count n) :
    ∃ a < n, count a = 0 ∧ count (a + 1) = 1 := by
  induction n with
  | zero => omega
  | succ n ih =>
    rcases Nat.eq_zero_or_pos (count n) with hlast | hearlier
    · have hone := hle n
      exact ⟨n, n.lt_succ_self, hlast, by omega⟩
    · obtain ⟨a, ha, hfirst⟩ := ih hearlier
      exact ⟨a, ha.trans n.lt_succ_self, hfirst⟩

/-- Such a count rises by at most the steps. -/
theorem count_add_le (hle : ∀ k, count (k + 1) ≤ count k + 1) (k m : Nat) : count (k + m) ≤ count k + m := by
  induction m with
  | zero => exact Nat.le_refl _
  | succ m ih => exact (hle (k + m)).trans (Nat.succ_le_succ ih)

end Counts

/-- A run of CAD_STEP that meets the premises of rule R252 (iv) is one of `Pedalling`. -/
theorem pedalling_of_run {run : Nat → State} {pas : Nat → U2} {count : Nat → Nat} {n : Nat}
    (hstep : ∀ k, exec (.cadStep (pas k)) (run k) = .next (run (k + 1)))
    (hcount : ∀ k, count (k + 1) = count k + (if pas k = (run k).cad.pasOld then 0 else 1))
    (hfwd : ∀ k < n, pas k = (run k).cad.pasOld ∨ (run 0).par.pasPrev (pas k) = (run k).cad.pasOld)
    (hrunning : ∀ k < n, (run (k + 1)).cad.cadStopCnt ≠ 0) :
    Pedalling (run 0).par (fun k => (run k).cad) pas count n := by
  have hpar : ∀ k, (run k).par = (run 0).par := by
    intro k
    induction k with
    | zero => rfl
    | succ k ih => exact (cad_of_exec_cadStep (hstep k)).1.trans ih
  refine ⟨fun k hk => ?_, fun k hk => ?_⟩
  · obtain ⟨-, hcad⟩ := cad_of_exec_cadStep (hstep k)
    have hne := hrunning k hk
    rw [hcad] at hne
    rw [← hpar k]
    exact hcad.trans (cadRun_of_cadStopCnt_ne_zero hne)
  · by_cases hsame : pas k = (run k).cad.pasOld
    · exact .inl ⟨(pasClass_eq_same_iff _ _ _).mpr hsame, by rw [hcount, if_pos hsame, Nat.add_zero]⟩
    · exact .inr ⟨(pasClass_eq_iff _ _ _).1.mpr ⟨hsame, (hfwd k hk).resolve_left hsame⟩, by rw [hcount, if_neg hsame]⟩

end Sys2Proof.Laws

namespace Sys2Proof.Settled

open Sys2Proof.Laws Sys2Proof.Machine

/-- Settles O60: the phase of the run after `n` steps, by the count of its forward transitions. -/
theorem cadenceStarts : Obligations.CadenceStarts := by
  intro run pas c n hw href hticks hstep hc0 hcount hfwd hrunning
  have hped := pedalling_of_run hstep hcount hfwd hrunning
  have hle : ∀ k, c (k + 1) ≤ c k + 1 := fun k => by rw [hcount]; split <;> omega
  have hmono : Monotone c := monotone_nat_of_le_succ fun k => by rw [hcount]; exact Nat.le_add_right _ _
  have hbefore := hped.unreferenced ⟨href, hticks⟩
  have hfirst : 0 < c n → c n ≤ 4 → (run n).cad.cadTicks.toNat = if c n = 1 then 0 else (run 0).par.cadTicksStartup := by
    intro hpos hfour
    obtain ⟨a, ha, hzero, hone⟩ := exists_first_of_count_pos hc0 hle hpos
    obtain ⟨j, hj, hturn⟩ := hped.firstTurn hw ha (hbefore a ha.le hzero) hzero hone ha le_rfl
    obtain ⟨-, -, hstart⟩ := hturn (by omega)
    simpa [hj] using hstart
  refine ⟨fun hzero => (hbefore n le_rfl hzero).1, fun hone => ?_, fun htwo hfour => ?_, fun a b hb hzero hone hfour hfive height => ?_⟩
  · rcases Nat.eq_zero_or_pos (c n) with hzero | hpos
    · exact congrArg BitVec.toNat (hbefore n le_rfl hzero).2
    · rw [hfirst hpos (by omega), if_pos (by omega)]
  · have hstartup := (cadTicksStartup_of_wf hw).1
    rw [hfirst (by omega) hfour, if_neg (by omega)]
    exact ⟨rfl, by omega⟩
  · have hab : a < b := hmono.reflect_lt (by omega)
    have hslow := count_add_le hle (a + 1) (b - (a + 1))
    rw [Nat.add_sub_cancel' hab, hone, hfour] at hslow
    obtain ⟨j, hj, hturn⟩ := hped.firstTurn hw (hab.trans hb) (hbefore a (hab.trans hb).le hzero) hzero hone hab hb.le
    obtain rfl : j = 3 := by omega
    obtain ⟨hpas, hsecond⟩ := hped.secondTurn hw hb (Nat.sub_ne_zero_of_lt hab) (hturn (by omega)) hfour hfive
    obtain ⟨i, hi, hturn'⟩ := hsecond n hb le_rfl
    obtain ⟨⟨href', -⟩, hticks'⟩ := hturn' (by omega)
    exact ⟨by omega, hticks', href', hpas⟩

end Sys2Proof.Settled
end

section
/-! PROOFS. LINEARIZE (`45_torque.md` rule R286): over a table whose points rise from the origin, the points a delta has passed do not count,
so that it lies on the segment it falls in, and the segments join up to a function that never decreases. -/

namespace Sys2Proof.Laws

open Sys2Proof.Machine

/-! ### Rising tables -/

/-- One point lies to the right of another and not below it, as the legal range of the table asks of neighbours (rule R40). -/
def Rises (p q : LinPoint) : Prop := p.x.toNat < q.x.toNat ∧ p.y.toNat ≤ q.y.toNat

theorem Rises.trans {p q r : LinPoint} : Rises p q → Rises q r → Rises p r
  | ⟨hx, hy⟩, ⟨hx', hy'⟩ => ⟨hx.trans hx', hy.trans hy'⟩

/-- The implied point the first segment starts at (rule R286). -/
def linOrigin : LinPoint := ⟨0, 0⟩

/-- The first point of a legal table rises from the origin, and every other from the one before it (rule R40). -/
theorem tqLin_rises {c : CfgRec} (h : c.legal = true) :
    Rises linOrigin c.tqLin[0] ∧ ∀ (k : Nat) (_ : k < 5), Rises c.tqLin[k] c.tqLin[k + 1] := by
  simp only [CfgRec.legal, CfgRec.checks, List.all_cons, Bool.and_eq_true, decide_eq_true_eq] at h
  obtain ⟨-, -, hzero, ⟨hx0, hx1, hx2, hx3, hx4⟩, ⟨hy0, hy1, hy2, hy3, hy4⟩, -⟩ := h
  refine ⟨⟨Nat.pos_of_ne_zero fun hx => hzero (BitVec.eq_of_toNat_eq hx), Nat.zero_le _⟩, fun k hk => ?_⟩
  interval_cases k
  exacts [⟨hx0, hy0⟩, ⟨hx1, hy1⟩, ⟨hx2, hy2⟩, ⟨hx3, hy3⟩, ⟨hx4, hy4⟩]

/-- A legal table rises from the origin throughout. -/
theorem tqLin_pairwise {c : CfgRec} (h : c.legal = true) : (linOrigin :: c.tqLin.toList).Pairwise Rises := by
  obtain ⟨hfirst, hsucc⟩ := tqLin_rises h
  refine @List.IsChain.pairwise _ _ _ ⟨Rises.trans⟩ (List.isChain_iff_getElem.mpr fun k hk => ?_)
  cases k with
  | zero => exact hfirst
  | succ k => exact hsucc k (by simp only [List.length_cons, Vector.length_toList] at hk; omega)

/-! ### One segment -/

/-- The value on the segment from `p` to `q` (rule R286). -/
def segment (p q : LinPoint) (delta : Nat) : Nat :=
  p.y.toNat + (delta - p.x.toNat) * (q.y.toNat - p.y.toNat) / (q.x.toNat - p.x.toNat)

/-- The first segment is a proportion. -/
theorem segment_linOrigin (q : LinPoint) (delta : Nat) : segment linOrigin q delta = delta * q.y.toNat / q.x.toNat := by
  simp [segment, linOrigin]

theorem segment_mono (p q : LinPoint) : Monotone (segment p q) := fun _ _ h =>
  Nat.add_le_add_left (Nat.div_le_div_right (Nat.mul_le_mul_right _ (Nat.sub_le_sub_right h _))) _

/-- A segment starts no lower than its left end. -/
theorem le_segment (p q : LinPoint) (delta : Nat) : p.y.toNat ≤ segment p q delta := Nat.le_add_right _ _

/-- A segment ends no higher than its right end. -/
theorem segment_le {p q : LinPoint} (h : Rises p q) {delta : Nat} (hd : delta ≤ q.x.toNat) : segment p q delta ≤ q.y.toNat := by
  obtain ⟨-, hy⟩ := h
  have hdiv := Nat.div_le_of_le_mul (Nat.mul_le_mul_right (q.y.toNat - p.y.toNat) (Nat.sub_le_sub_right hd p.x.toNat))
  unfold segment
  omega

/-! ### The walk over the points -/

/-- LINEARIZE over the points `pts` that follow `p`. -/
def linearizeAfter (delta : Nat) (p : LinPoint) (pts : List LinPoint) : Nat := linearizeFrom delta p.x.toNat p.y.toNat pts

theorem linearize_eq (c : CfgRec) (delta : Nat) : linearize c delta = linearizeAfter delta linOrigin c.tqLin.toList := rfl

section Walk

variable {delta : Nat} {p q : LinPoint} {pts : List LinPoint}

/-- A delta up to the next point lies on the segment to it. -/
theorem linearizeAfter_of_le (h : delta ≤ q.x.toNat) : linearizeAfter delta p (q :: pts) = segment p q delta := if_pos h

/-- A delta past the next point leaves it behind. -/
theorem linearizeAfter_of_lt (h : q.x.toNat < delta) : linearizeAfter delta p (q :: pts) = linearizeAfter delta q pts :=
  if_neg h.not_ge

/-- A delta past any point of the table leaves it and all before it behind. -/
theorem linearizeAfter_drop (h : (p :: pts).Pairwise Rises) (k : Nat) (hk : k < pts.length) (hd : pts[k].x.toNat < delta) :
    linearizeAfter delta p pts = linearizeAfter delta pts[k] (pts.drop (k + 1)) := by
  induction pts generalizing p k with
  | nil => exact absurd hk (Nat.not_lt_zero k)
  | cons q pts ih =>
    obtain ⟨-, hq⟩ := List.pairwise_cons.mp h
    cases k with
    | zero => exact linearizeAfter_of_lt hd
    | succ k =>
      have hk' : k < pts.length := Nat.lt_of_succ_lt_succ hk
      obtain ⟨hlt, -⟩ := List.rel_of_pairwise_cons hq (List.getElem_mem hk')
      exact (linearizeAfter_of_lt (hlt.trans hd)).trans (ih hq k hk' hd)

/-- The values do not fall below the point the walk starts from. -/
theorem le_linearizeAfter (h : (p :: pts).Pairwise Rises) : p.y.toNat ≤ linearizeAfter delta p pts := by
  induction pts generalizing p with
  | nil => exact le_rfl
  | cons q pts ih =>
    obtain ⟨hp, hq⟩ := List.pairwise_cons.mp h
    obtain ⟨-, hy⟩ := hp q List.mem_cons_self
    rcases Nat.lt_or_ge q.x.toNat delta with hpast | hon
    · exact hy.trans ((ih hq).trans_eq (linearizeAfter_of_lt hpast).symm)
    · exact (le_segment p q delta).trans_eq (linearizeAfter_of_le hon).symm

/-- Two deltas lie on one segment, or both past it, or the point that ends it separates their values. -/
theorem linearizeAfter_mono (h : (p :: pts).Pairwise Rises) {d e : Nat} (hde : d ≤ e) :
    linearizeAfter d p pts ≤ linearizeAfter e p pts := by
  induction pts generalizing p with
  | nil => exact le_rfl
  | cons q pts ih =>
    obtain ⟨hp, hq⟩ := List.pairwise_cons.mp h
    rcases Nat.lt_or_ge q.x.toNat e with heq | heq
    · rw [linearizeAfter_of_lt heq]
      rcases Nat.lt_or_ge q.x.toNat d with hdq | hdq
      · exact (linearizeAfter_of_lt hdq).trans_le (ih hq)
      · rw [linearizeAfter_of_le hdq]
        exact (segment_le (hp q List.mem_cons_self) hdq).trans (le_linearizeAfter hq)
    · rw [linearizeAfter_of_le heq, linearizeAfter_of_le (hde.trans heq)]
      exact segment_mono p q hde

end Walk

/-! ### The configured table -/

section Table

variable {c : CfgRec} {delta : Nat}

/-- Up to the first point, the first segment, from the origin. -/
theorem linearize_of_le (h : delta ≤ c.tqLin[0].x.toNat) : linearize c delta = segment linOrigin c.tqLin[0] delta := by
  have htable : c.tqLin.toList = c.tqLin[0] :: c.tqLin.toList.drop 1 := List.drop_eq_getElem_cons (i := 0) (by simp)
  rw [linearize_eq, htable]
  exact linearizeAfter_of_le h

/-- Past point `k`, what follows it. -/
theorem linearize_of_lt (hc : c.legal = true) {k : Nat} (hk : k < 6) (h : c.tqLin[k].x.toNat < delta) :
    linearize c delta = linearizeAfter delta c.tqLin[k] (c.tqLin.toList.drop (k + 1)) :=
  linearizeAfter_drop (tqLin_pairwise hc) k (by simpa using hk) h

/-- Between two points, the segment that joins them. -/
theorem linearize_of_between (hc : c.legal = true) {k : Nat} (hk : k < 5) (h : c.tqLin[k].x.toNat < delta)
    (h' : delta ≤ c.tqLin[k + 1].x.toNat) : linearize c delta = segment c.tqLin[k] c.tqLin[k + 1] delta := by
  rw [linearize_of_lt hc (by omega) h, List.drop_eq_getElem_cons (by simpa using Nat.succ_lt_succ hk)]
  exact linearizeAfter_of_le h'

/-- Past the last point, its value. -/
theorem linearize_of_last_lt (hc : c.legal = true) (h : c.tqLin[5].x.toNat < delta) : linearize c delta = c.tqLin[5].y.toNat := by
  rw [linearize_of_lt hc (by decide) h, List.drop_of_length_le (by simp)]
  rfl

theorem linearize_mono (hc : c.legal = true) : Monotone (linearize c) := fun _ _ => linearizeAfter_mono (tqLin_pairwise hc)

/-- The values stay at most the last, since they do not fall on the way there. -/
theorem linearize_le_last (hc : c.legal = true) (delta : Nat) : linearize c delta ≤ c.tqLin[5].y.toNat :=
  calc linearize c delta ≤ linearize c (delta + (c.tqLin[5].x.toNat + 1)) := linearize_mono hc (Nat.le_add_right _ _)
    _ = c.tqLin[5].y.toNat := linearize_of_last_lt hc (by omega)

end Table

end Sys2Proof.Laws

namespace Sys2Proof.Settled

open Sys2Proof.Laws Sys2Proof.Machine

/-- Settles O37: the value by the segment a delta falls in, and its monotonicity and bounds by the way the segments join. -/
theorem linearize : Obligations.Linearize := fun c hc => by
  have hfirst (delta : Nat) (h : delta ≤ c.tqLin[0].x.toNat) :
      Machine.linearize c delta = delta * c.tqLin[0].y.toNat / c.tqLin[0].x.toNat :=
    (linearize_of_le h).trans (segment_linOrigin _ delta)
  have hzero : Machine.linearize c 0 = 0 := by rw [hfirst 0 (Nat.zero_le _), Nat.zero_mul, Nat.zero_div]
  exact ⟨hfirst, fun k hk delta => linearize_of_between hc hk, fun delta => linearize_of_last_lt hc,
    fun d e hde => linearize_mono hc hde, hzero, linearize_le_last hc⟩

end Sys2Proof.Settled
end

section
/-! PROOFS. TQ_ACQUIRE (`45_torque.md` rules R281 to R285, R287, R289): the self-zeroing window is a filter whose bound leaves room for its
registers, so that nothing is narrowed in it; after it a sample is measured against the offset. -/

namespace Sys2Proof.Laws

open Sys2Proof.Machine

/-! ### The bounds of the registers -/

/-- The shift of the zeroing filter (rule R7). -/
theorem tqOffShift_of_wf {p : Params} (h : p.wf = true) : p.tqOffShift ≤ 8 := by
  simpa using check_of_wf h (c := ("TQ_OFF_SHIFT", decide (p.tqOffShift ≤ 8))) (by simp [Params.checks])

/-- The largest torque sample fits its register (rule R7). -/
theorem adcTMaxSample_of_wf {p : Params} (h : p.wf = true) : p.adcTMaxSample < 65536 := by
  simpa using check_of_wf h (c := ("ADC_T_MAX_SAMPLE", decide (p.adcTMaxSample < 65536))) (by simp [Params.checks])

/-- The bound of the zeroing filter fits the accumulator's register (rule R289). -/
theorem tqOffAccBound_lt {p : Params} (h : p.wf = true) : p.adcTMaxSample * 2 ^ p.tqOffShift < 2 ^ 32 :=
  calc p.adcTMaxSample * 2 ^ p.tqOffShift
      ≤ 65535 * 2 ^ 8 :=
        Nat.mul_le_mul (Nat.le_of_lt_succ (adcTMaxSample_of_wf h)) (Nat.pow_le_pow_right (by decide) (tqOffShift_of_wf h))
    _ < 2 ^ 32 := by decide

/-- An integer clamped to the range of a register is stored unchanged. -/
theorem sat_clampInt_toNat (v : Int) : ((sat 16 (clampInt v 0 65535).toNat).toNat : Int) = min (max v 0) 65535 := by
  rw [sat_toNat, clampInt]
  omega

/-! ### The window (rules R281 to R283) -/

section Window

variable {p : Params} {x : Nat} {t : TorqueState}

/-- The window's filter is not narrowed (rules R281, R289). -/
theorem tqWindow_tqOffAcc_toNat (hw : p.wf = true) (hx : x ≤ p.adcTMaxSample)
    (hacc : t.tqOffAcc.toNat ≤ p.adcTMaxSample * 2 ^ p.tqOffShift) :
    (tqWindow p x t).tqOffAcc.toNat = t.tqOffAcc.toNat - t.tqOffAcc.toNat / 2 ^ p.tqOffShift + x :=
  sat_toNat_of_lt 32 _ ((lowPass_le _ _ _ _ hacc hx).trans_lt (tqOffAccBound_lt hw))

/-- The offset before the bias is not narrowed (rules R281, R289). -/
theorem sat_tqWindow_offset_toNat (hw : p.wf = true) (hx : x ≤ p.adcTMaxSample)
    (hacc : t.tqOffAcc.toNat ≤ p.adcTMaxSample * 2 ^ p.tqOffShift) :
    (sat 16 (shr (tqWindow p x t).tqOffAcc.toNat p.tqOffShift)).toNat = (tqWindow p x t).tqOffAcc.toNat / 2 ^ p.tqOffShift := by
  have hnew : (tqWindow p x t).tqOffAcc.toNat ≤ p.adcTMaxSample * 2 ^ p.tqOffShift := sat_lowPass_le 32 _ _ _ _ hacc hx
  have hoff := Nat.div_le_of_le_mul (Nat.mul_comm p.adcTMaxSample _ ▸ hnew)
  exact sat_shr_toNat _ _ (hoff.trans_lt (adcTMaxSample_of_wf hw))

/-- A tick of the window is counted; the counter ends below 65536 with the window (rules R7, R281). -/
theorem tqWindow_tqBootCnt_toNat (hw : p.wf = true) (hopen : t.tqBootCnt.toNat < p.tqZeroTicks) :
    (tqWindow p x t).tqBootCnt.toNat = t.tqBootCnt.toNat + 1 := by
  have hticks := check_of_wf hw (c := ("TQ_ZERO_TICKS", decide (0 < p.tqZeroTicks ∧ p.tqZeroTicks < 65536)))
    (by simp [Params.checks])
  obtain ⟨-, hlt⟩ := of_decide_eq_true hticks
  exact sat_toNat_of_lt 16 _ (by omega)

/-- Within the window the offset is the accumulator shifted (rule R282). -/
theorem tqWindow_tqOffset_of_ne (hboot : (tqWindow p x t).tqBootCnt.toNat ≠ p.tqZeroTicks) :
    (tqWindow p x t).tqOffset = sat 16 (shr (tqWindow p x t).tqOffAcc.toNat p.tqOffShift) := if_neg hboot

/-- At its close the bias is added to it once (rule R283). -/
theorem tqWindow_tqOffset_of_eq (hboot : (tqWindow p x t).tqBootCnt.toNat = p.tqZeroTicks) :
    (tqWindow p x t).tqOffset =
      sat 16 (clampInt ((sat 16 (shr (tqWindow p x t).tqOffAcc.toNat p.tqOffShift)).toNat + p.tqCalBias) 0 65535).toNat :=
  if_pos hboot

end Window

/-! ### The measurement (rules R284, R285, R287) -/

/-- The torque of a delta, by the path the configuration selects, is saturated only at the end (rules R285, R287, R289). -/
theorem torqueOf_toNat (p : Params) (c : CfgRec) (delta : Nat) :
    (torqueOf p c delta).toNat =
      if c.tqLinEnabled = true then min (linearize c delta * p.tqWToX100Num / p.tqWToX100Den) 65535
      else min (delta * c.tqPerStepX100.toNat) 65535 := by
  unfold torqueOf
  split <;> exact sat_toNat 16 _

/-! ### The operation -/

section Acquire

variable {s : State} (x : U12)

theorem tqAcquire_tq_of_open (h : s.tq.tqBootCnt.toNat < s.par.tqZeroTicks) :
    (tqAcquire x s).tq = tqWindow s.par x.toNat s.tq := if_pos h

theorem tqAcquire_tq_of_closed (h : s.par.tqZeroTicks ≤ s.tq.tqBootCnt.toNat) :
    (tqAcquire x s).tq = tqMeasure s.par s.cfg x.toNat s.tq := if_neg h.not_gt

/-- A sample fits its register. -/
theorem sat_sample_toNat (v : Nat) (h : v ≤ x.toNat) : (sat 16 v).toNat = v :=
  sat_toNat_of_lt 16 _ ((h.trans_lt x.isLt).trans (by decide))

/-- The sample is latched in the window and after it (rule R281). -/
theorem tqAcquire_tqRaw_toNat : (tqAcquire x s).tq.tqRaw.toNat = x.toNat := by
  rcases Nat.lt_or_ge s.tq.tqBootCnt.toNat s.par.tqZeroTicks with hopen | hclosed
  · rw [tqAcquire_tq_of_open x hopen]
    exact sat_sample_toNat x _ le_rfl
  · rw [tqAcquire_tq_of_closed x hclosed]
    exact sat_sample_toNat x _ le_rfl

end Acquire

end Sys2Proof.Laws

namespace Sys2Proof.Settled

open Sys2Proof.Laws Sys2Proof.Machine

/-- Settles O36: the window with its counter and its offset, and the measurement against the offset it leaves. -/
theorem tqAcquire : Obligations.TqAcquire := by
  intro s x hw hx hacc
  refine ⟨_, exec_tqAcquire hx, rfl, tqAcquire_tqRaw_toNat x, fun hopen => ?_, fun hclosed => ?_⟩
  · rw [tqAcquire_tq_of_open x hopen]
    have hboot := tqWindow_tqBootCnt_toNat (x := x.toNat) hw hopen
    have hoff := sat_tqWindow_offset_toNat hw hx hacc
    refine ⟨tqWindow_tqOffAcc_toNat hw hx hacc, hboot, rfl, rfl, fun hmore => ?_, fun hlast => ?_⟩
    · rw [tqWindow_tqOffset_of_ne (by omega), hoff]
    · rw [tqWindow_tqOffset_of_eq (hboot.trans hlast), sat_clampInt_toNat, hoff]
  · rw [tqAcquire_tq_of_closed x hclosed]
    have hdelta : (tqMeasure s.par s.cfg x.toNat s.tq).tqDelta.toNat = x.toNat - s.tq.tqOffset.toNat :=
      sat_sample_toNat x _ (Nat.sub_le _ _)
    rw [hdelta]
    exact ⟨rfl, rfl, rfl, rfl, torqueOf_toNat _ _ _⟩

end Sys2Proof.Settled
end

section
/-! PROOFS. MODE_POLICY (rules R300 to R326): the working values of each riding mode, and the bonus on their current. -/

namespace Sys2Proof.Laws

open Sys2Proof.Machine

/-! ### The field-weakening bonus (rule R326) -/

/-- The bonus of the field-weakening angle, which every mode but MOTOR_CALIBRATION adds to its current. -/
def angleBonus (s : State) : Nat :=
  if s.cfg.fwEnabled = true ∧ s.cmd.flags.getLsbD 0 = true ∧ s.par.fwBonusMinAngle < s.snap.fwAngle.toNat then
    s.snap.fwAngle.toNat * s.par.fwBonusNum / s.par.fwBonusDen
  else 0

theorem fwBonusCurrent_of_calibration {s : State} (h : s.ctl.mode = .motorCalibration) : fwBonusCurrent s = 0 :=
  if_neg fun hc => hc.1 h

theorem fwBonusCurrent_of_riding {s : State} (h : s.ctl.mode ≠ .motorCalibration) : fwBonusCurrent s = angleBonus s := by
  simp only [fwBonusCurrent, angleBonus, effFwEnabled, Bool.and_eq_true, ne_eq, h, not_false_eq_true, true_and, and_assoc]

/-- No policy writes what the bonus reads. -/
theorem fwBonusCurrent_runPolicy (s : State) : fwBonusCurrent (runPolicy s) = fwBonusCurrent s :=
  runPolicy_elim (P := fun u => fwBonusCurrent u = fwBonusCurrent s) fun _ _ _ _ _ => rfl

/-! ### The policy and the bonus (rule R300) -/

/-- The bonus is added to the current the policy asks for. -/
theorem modePolicy_tgt {s : State} {g : Targets} (h : (runPolicy s).work.tgt = g) :
    (modePolicy s).work.tgt = { g with i := g.i + fwBonusCurrent s } := by
  rw [← h, ← fwBonusCurrent_runPolicy]
  rfl

/-- A mode other than CRUISE writes the working values and clears `cruise_active` (rules R300, R322). -/
theorem modePolicy_frame_of_ne_cruise {s : State} (h : s.ctl.mode ≠ .cruise) :
    modePolicy s = { s with
      asst := { s.asst with cruiseActive := false }, work := { s.work with tgt := (modePolicy s).work.tgt } } := by
  rw [← modePolicy_asst h, modePolicy_frame s]

theorem runPolicy_tgt_of_off {s : State} (h : s.ctl.mode = .off) : (runPolicy s).work.tgt = offPolicy s.par := by
  simp only [runPolicy, h]; rfl

theorem runPolicy_tgt_of_walkAssist {s : State} (h : s.ctl.mode = .walkAssist) :
    (runPolicy s).work.tgt = walkAssist s.par s.ctl.modeParam (common s) := by
  simp only [runPolicy, h]; rfl

theorem runPolicy_tgt_of_calibration {s : State} (h : s.ctl.mode = .motorCalibration) :
    (runPolicy s).work.tgt = calibration s.par s.ctl.modeParam := by
  simp only [runPolicy, h]; rfl

theorem runPolicy_tgt_of_powerAssist {s : State} (h : s.ctl.mode = .powerAssist) :
    (runPolicy s).work.tgt = powerAssist s.par s.cfg (common s) := by
  simp only [runPolicy, h]; rfl

theorem runPolicy_tgt_of_emtbAssist {s : State} (h : s.ctl.mode = .emtbAssist) :
    (runPolicy s).work.tgt = emtbAssist s.par s.cfg s.ctl.modeParam (common s) := by
  simp only [runPolicy, h]; rfl

/-! ### WALK_ASSIST (rule R316) -/

theorem walkAssist_of_slow {p : Params} {c : Common} (modeParam : U8) (h : c.speed < p.walkSpeedMaxX10) :
    walkAssist p modeParam c =
      { i := p.walkIMax, dutyTgt := min modeParam.toNat p.walkDutyMax, up := p.walkRampUp, down := p.walkRampDown } :=
  if_pos h

theorem walkAssist_of_fast {p : Params} {c : Common} (modeParam : U8) (h : p.walkSpeedMaxX10 ≤ c.speed) :
    walkAssist p modeParam c = { i := 0, dutyTgt := 0, up := p.walkRampUp, down := p.walkRampDown } :=
  if_neg h.not_gt

/-! ### POWER_ASSIST and eMTB_ASSIST (rules R303 to R313) -/

/-- Where POWER_ASSIST assists without pedal rotation (rule R303). -/
abbrev AssistsAtRest (s : State) : Prop :=
  s.ctl.mode = .powerAssist ∧ 0 < s.cfg.awprThreshold.toNat ∧ s.whl.wheelSpeedX10.toNat = 0
    ∧ s.cad.cadenceRpm.toNat = 0 ∧ s.cfg.awprThreshold.toNat < s.tq.tqDelta.toNat

/-- The cadence that the two policies use (rule R303). -/
def assistCad (s : State) : Nat := if AssistsAtRest s then s.par.cadSynthRpm else s.cad.cadenceRpm.toNat

/-- COMMON with that cadence. -/
def assistCommon (s : State) : Common := { common s with cad := assistCad s }

/-- The current that the two policies ask for before the floor (rules R304 to R307, R313). -/
def assistCurrent (s : State) : Nat :=
  if s.ctl.mode = .powerAssist then powerCurrent s.par s.cfg (assistCommon s)
  else emtbRead s.par.emtbTable (min (max s.ctl.modeParam.toNat 1) 10 - 1) (min s.tq.tqDelta.toNat 240)

/-- AWPR replaces the cadence and nothing else of COMMON (rule R303). -/
theorem awpr_common {s : State} (h : s.ctl.mode = .powerAssist) : awpr s.par s.cfg (common s) = assistCommon s := by
  have hcond : (s.cfg.awprThreshold ≠ 0 ∧ (common s).stationary = true ∧ (common s).cad = 0
      ∧ s.cfg.awprThreshold.toNat < (common s).delta) ↔ AssistsAtRest s := by
    simp only [AssistsAtRest, common, h, decide_eq_true_eq, true_and, ne_eq, eq_zero_iff_toNat, Nat.pos_iff_ne_zero]
  unfold awpr assistCommon assistCad
  by_cases hrest : AssistsAtRest s
  · rw [if_pos (hcond.mpr hrest), if_pos hrest]
  · rw [if_neg (mt hcond.mp hrest), if_neg hrest]
    rfl

/-- Both policies put the floor, the duty target and the ramp periods on their current (rules R308 to R310, R312). -/
theorem runPolicy_tgt_of_assist {s : State} (h : s.ctl.mode = .powerAssist ∨ s.ctl.mode = .emtbAssist) :
    (runPolicy s).work.tgt = currentTargets s.par s.cfg (assistCommon s) (assistCurrent s) := by
  rcases h with h | h
  · rw [runPolicy_tgt_of_powerAssist h, powerAssist, awpr_common h, assistCurrent, if_pos h]
  · have hne : s.ctl.mode ≠ .powerAssist := by simp [h]
    have hcommon : assistCommon s = common s := by
      rw [assistCommon, assistCad, if_neg fun hrest => hne hrest.1]; rfl
    rw [runPolicy_tgt_of_emtbAssist h, emtbAssist, hcommon, assistCurrent, if_neg hne]
    rfl

/-- FLOOR (rule R308). -/
theorem floorCurrent_assistCommon (s : State) (i : Nat) :
    floorCurrent s.cfg (assistCommon s) i =
      if (0 < s.whl.wheelSpeedX10.toNat ∨ 0 < assistCad s) ∧ i < s.cfg.iMinFloor.toNat then s.cfg.iMinFloor.toNat else i := by
  simp only [floorCurrent, assistCommon, common, decide_eq_false_iff_not, Nat.pos_iff_ne_zero, ne_eq]

/-- The current from pedal power, with the multipliers that soft start selects (rules R304 to R307). -/
theorem powerCurrent_assistCommon (s : State) : ∃ pm tm power : Nat,
    ((s.whl.wheelSpeedX10.toNat = 0 ∧ s.cfg.softStart = true) →
      pm = s.cfg.powerMultSoft.toNat ∧ tm = s.cfg.torqueMultSoft.toNat)
    ∧ (¬(s.whl.wheelSpeedX10.toNat = 0 ∧ s.cfg.softStart = true) → pm = s.cfg.powerMult.toNat ∧ tm = s.cfg.torqueMult.toNat)
    ∧ power =
        (if s.adc.vbatFilt.toNat = 0 then 0
         else s.tq.torqueX100.toNat * assistCad s / s.par.pedalPowerDiv * pm / s.par.powerMultDiv * 100000
            / (s.adc.vbatFilt.toNat * s.par.mvPerVstep * s.par.maPerIstep))
    ∧ powerCurrent s.par s.cfg (assistCommon s) =
        (if s.cfg.hybrid = true then max power (s.tq.torqueX100.toNat * tm / s.par.torqueMultDiv) else power) := by
  have hsoft : (decide (s.whl.wheelSpeedX10.toNat = 0) && s.cfg.softStart) = true ↔
      s.whl.wheelSpeedX10.toNat = 0 ∧ s.cfg.softStart = true := by simp
  exact ⟨_, _, _, fun h => ⟨if_pos (hsoft.mpr h), if_pos (hsoft.mpr h)⟩,
    fun h => ⟨if_neg (mt hsoft.mp h), if_neg (mt hsoft.mp h)⟩, rfl, rfl⟩

theorem combine_of_max {rc : RampCombine} (h : rc = .max) (a b : Nat) : combine rc a b = max a b := by subst h; rfl

theorem combine_of_min {rc : RampCombine} (h : rc = .min) (a b : Nat) : combine rc a b = min a b := by subst h; rfl

/-! ### CRUISE (rules R320 to R323) -/

section Cruise

variable {s : State}

/-- At the engagement speed and below it nothing is asked for and cruise is inactive (rule R320). -/
theorem cruisePolicy_of_slow (h : s.whl.wheelSpeedX10.toNat ≤ s.par.cruiseSpeedMinX10) :
    cruisePolicy s = (s.withAsst { s.asst with cruiseActive := false }).withTgt
      { i := 0, dutyTgt := 0, up := s.par.cruiseRampUp, down := s.par.cruiseRampDown } :=
  if_neg h.not_gt

/-- The assist registers that CRUISE leaves above that speed: engaged, and the integral updated. -/
def cruiseAsst (s : State) : AssistState :=
  { cruiseEngage s.par s.ctl.modeParam s.whl.wheelSpeedX10 s.asst with
    cruiseIntegral := cruiseIntegrate s.par s.cfg.motorType s.whl.wheelSpeedX10
      (cruiseEngage s.par s.ctl.modeParam s.whl.wheelSpeedX10 s.asst) }

theorem cruisePolicy_of_fast (h : s.par.cruiseSpeedMinX10 < s.whl.wheelSpeedX10.toNat) :
    cruisePolicy s = (s.withAsst (cruiseAsst s)).withTgt
      { i := effIMax s
        dutyTgt := linMap (cruiseOut s.par s.cfg.motorType s.whl.wheelSpeedX10 (cruiseAsst s)) 0 s.par.cruiseOutMax 0 s.par.dutyMax
        up := s.par.cruiseRampUp
        down := s.par.cruiseRampDown } :=
  if_pos h

/-- The ramp periods of CRUISE do not depend on the speed. -/
theorem cruisePolicy_periods (s : State) :
    (cruisePolicy s).work.tgt.up = s.par.cruiseRampUp ∧ (cruisePolicy s).work.tgt.down = s.par.cruiseRampDown := by
  rcases Nat.lt_or_ge s.par.cruiseSpeedMinX10 s.whl.wheelSpeedX10.toNat with h | h
  · rw [cruisePolicy_of_fast h]; exact ⟨rfl, rfl⟩
  · rw [cruisePolicy_of_slow h]; exact ⟨rfl, rfl⟩

/-- Engaging starts at the present speed with the seed; a parameter of the mode is the target (rules R320, R322). -/
theorem cruiseEngage_eq (p : Params) (modeParam : U8) (speed : U16) (a : AssistState) :
    cruiseEngage p modeParam speed a = { a with
      cruiseActive := true
      cruiseIntegral := if a.cruiseActive = true then a.cruiseIntegral else satI32 p.cruiseISeed
      cruiseTargetX10 :=
        if modeParam ≠ 0 then sat 16 (modeParam.toNat * 10)
        else if a.cruiseActive = true then a.cruiseTargetX10 else speed } := by
  rcases a with ⟨active, _⟩
  by_cases hparam : modeParam ≠ 0
  · simp only [cruiseEngage, if_pos hparam]
    cases active <;> rfl
  · simp only [cruiseEngage, if_neg hparam]
    cases active <;> rfl

theorem cruiseAsst_target_of_param (h : 0 < s.ctl.modeParam.toNat) :
    (cruiseAsst s).cruiseTargetX10.toNat = s.ctl.modeParam.toNat * 10 := by
  have hne : s.ctl.modeParam ≠ 0 := mt (eq_zero_iff_toNat _).mp h.ne'
  have hlt := s.ctl.modeParam.isLt
  rw [cruiseAsst, cruiseEngage_eq]
  simp only [if_pos hne]
  exact sat_toNat_of_lt 16 _ (by omega)

theorem cruiseAsst_target_of_no_param (h : s.ctl.modeParam.toNat = 0) :
    (cruiseAsst s).cruiseTargetX10 = if s.asst.cruiseActive = true then s.asst.cruiseTargetX10 else s.whl.wheelSpeedX10 := by
  have hzero : s.ctl.modeParam = 0 := (eq_zero_iff_toNat _).mpr h
  rw [cruiseAsst, cruiseEngage_eq]
  exact if_neg (not_not.mpr hzero)

theorem cruiseISeed_le_of_wf {p : Params} (h : p.wf = true) : p.cruiseISeed ≤ p.cruiseILimit := by
  have hseed := check_of_wf h (c := ("CRUISE_I_SEED", decide (1 ≤ p.cruiseISeed ∧ p.cruiseISeed ≤ p.cruiseILimit)))
    (by simp [Params.checks])
  exact (of_decide_eq_true hseed).2

/-- The integral before its update: the one held, or the seed, which fits its register (rules R7, R320). -/
theorem cruiseEngage_integral (hw : s.par.wf = true) (hlimit : s.par.cruiseILimit < 2 ^ 31) :
    (cruiseEngage s.par s.ctl.modeParam s.whl.wheelSpeedX10 s.asst).cruiseIntegral.toInt =
      if s.asst.cruiseActive = true then s.asst.cruiseIntegral.toInt else (s.par.cruiseISeed : Int) := by
  have hseed := cruiseISeed_le_of_wf hw
  rw [cruiseEngage_eq]
  dsimp only
  split
  · rfl
  · exact satI32_toInt_of_range _ (by omega) (by omega)

/-- The clamped integral fits its register (rule R321). -/
theorem cruiseIntegrate_toInt {p : Params} (hlimit : p.cruiseILimit < 2 ^ 31) (m : MotorType) (speed : U16) (a : AssistState) :
    (cruiseIntegrate p m speed a).toInt =
      min (max (a.cruiseIntegral.toInt + Int.tdiv (cruiseKi p m * cruiseErr speed a) p.cruiseKiDiv) 0) p.cruiseILimit := by
  have hbounds := clampInt_bounds (a.cruiseIntegral.toInt + Int.tdiv (cruiseKi p m * cruiseErr speed a) p.cruiseKiDiv) 0
    p.cruiseILimit (Int.natCast_nonneg _)
  exact satI32_toInt_of_range _ (by omega) (by omega)

end Cruise

end Sys2Proof.Laws

namespace Sys2Proof.Settled

open Sys2Proof.Laws Sys2Proof.Machine

/-- Settles O42: the targets of each mode, and the bonus on the current of the first two. -/
theorem policyPlainModes : Obligations.PolicyPlainModes := by
  intro s hmode
  have hcruise : s.ctl.mode ≠ .cruise := by rcases hmode with h | h | h <;> simp [h]
  have hriding (m : Mode) (h : s.ctl.mode = m) (hm : m ≠ .motorCalibration) : fwBonusCurrent s = angleBonus s :=
    fwBonusCurrent_of_riding (h ▸ hm)
  refine ⟨modePolicy s, rfl, modePolicy_frame_of_ne_cruise hcruise, angleBonus s, fun h => if_pos h, fun h => if_neg h,
    fun h => ?off, fun h hslow => ?walk, fun h hfast => ?walkFast, fun h => ?calibration⟩
  case off =>
    rw [modePolicy_tgt (runPolicy_tgt_of_off h), hriding _ h nofun]
    simp [offPolicy]
  case walk =>
    rw [modePolicy_tgt ((runPolicy_tgt_of_walkAssist h).trans (walkAssist_of_slow _ hslow)), hriding _ h nofun]
  case walkFast =>
    rw [modePolicy_tgt ((runPolicy_tgt_of_walkAssist h).trans (walkAssist_of_fast _ hfast)), hriding _ h nofun, Nat.zero_add]
  case calibration =>
    rw [modePolicy_tgt (runPolicy_tgt_of_calibration h), fwBonusCurrent_of_calibration h]
    rfl

/-- Settles O43: the current before the floor by mode, then what both modes make of it. -/
theorem policyAssistModes : Obligations.PolicyAssistModes := by
  intro s hmode
  have hcruise : s.ctl.mode ≠ .cruise := by rcases hmode with h | h <;> simp [h]
  have hriding : s.ctl.mode ≠ .motorCalibration := by rcases hmode with h | h <;> simp [h]
  have htgt := modePolicy_tgt (runPolicy_tgt_of_assist hmode)
  rw [fwBonusCurrent_of_riding hriding] at htgt
  refine ⟨modePolicy s, rfl, modePolicy_frame_of_ne_cruise hcruise, assistCad s, assistCurrent s,
    floorCurrent s.cfg (assistCommon s) (assistCurrent s), angleBonus s, fun h => if_pos h, fun h => if_neg h, fun h => ?power,
    fun h => ?emtb, floorCurrent_assistCommon s _, rfl, ?_, ?_, _, _, _, _, rfl, rfl, rfl, rfl, fun h => ?max, fun h => ?min⟩
  case power => rw [assistCurrent, if_pos h]; exact powerCurrent_assistCommon s
  case emtb => exact if_neg (by simp [h])
  all_goals rw [htgt]
  case max => exact ⟨combine_of_max h _ _, combine_of_max h _ _⟩
  case min => exact ⟨combine_of_min h _ _, combine_of_min h _ _⟩
  all_goals rfl

/-- Settles O44: below the engagement speed, and the controller above it. -/
theorem policyCruise : Obligations.PolicyCruise := by
  intro s hw hlimit hmode
  have hbonus : fwBonusCurrent (cruisePolicy s) = angleBonus s := by
    rw [← fwBonusCurrent_of_riding (by simp [hmode] : s.ctl.mode ≠ .motorCalibration), cruisePolicy_frame]; rfl
  have hstep : modePolicy s = (cruisePolicy s).withTgt
      { (cruisePolicy s).tgt with i := (cruisePolicy s).tgt.i + angleBonus s } := by
    rw [modePolicy_of_cruise hmode, fwBonus, hbonus]
  obtain ⟨hup, hdown⟩ := cruisePolicy_periods s
  refine ⟨modePolicy s, rfl, modePolicy_frame s, ?_⟩
  rw [hstep]
  refine ⟨hup, hdown, angleBonus s, rfl, fun hslow => ?_, fun hfast => ?_⟩
  · rw [cruisePolicy_of_slow hslow]
    exact ⟨rfl, Nat.zero_add _, rfl⟩
  · rw [cruisePolicy_of_fast hfast]
    refine ⟨congrArg AssistState.cruiseActive (cruiseEngage_eq _ _ _ _), rfl, cruiseAsst_target_of_param,
      cruiseAsst_target_of_no_param, cruiseKp s.par s.cfg.motorType, cruiseKi s.par s.cfg.motorType,
      cruiseErr s.whl.wheelSpeedX10 (cruiseAsst s), _, _, fun hm => ?_, fun hm => ?_, rfl, cruiseEngage_integral hw hlimit,
      cruiseIntegrate_toInt hlimit _ _ _, rfl, rfl⟩
    · rw [hm]; exact ⟨rfl, rfl⟩
    · rw [hm]; exact ⟨rfl, rfl⟩

end Sys2Proof.Settled
end

section
/-! PROOFS. GLOBAL_CAPS (rules R302, R340 to R344): what the caps and the fault gate make of the working values, and that STAGE loses
nothing of them. -/

namespace Sys2Proof.Laws

open Sys2Proof.Machine

/-- GLOBAL_CAPS writes the working values and the four staged targets (rules R340, R344). -/
theorem globalCaps_frame (s : State) :
    globalCaps s = { s with
      work := { s.work with tgt := (globalCaps s).work.tgt }
      pend := { s.pend with
        iTarget := (globalCaps s).pend.iTarget, dutyTarget := (globalCaps s).pend.dutyTarget,
        rampUpPeriod := (globalCaps s).pend.rampUpPeriod, rampDownPeriod := (globalCaps s).pend.rampDownPeriod } } := rfl

/-- With NO_ERROR the capped values pass (rules R340 to R343). -/
theorem globalCaps_tgt_of_noError {s : State} (h : s.ctl.systemState = .noError) :
    (globalCaps s).work.tgt = capTargets s.par s.cmd (iCap s) s.work.tgt := by
  rcases faultGateTargets_cases s.par s.ctl.systemState (capTargets s.par s.cmd (iCap s) s.work.tgt) with ⟨-, hg⟩ | ⟨hne, -⟩
  · exact hg
  · exact absurd h hne

/-- Under a fault both targets are 0 and the down period is the fastest (rule R343). -/
theorem globalCaps_tgt_of_fault {s : State} (h : s.ctl.systemState ≠ .noError) :
    (globalCaps s).work.tgt =
      { capTargets s.par s.cmd (iCap s) s.work.tgt with i := 0, dutyTgt := 0, down := s.par.rampDownMin } := by
  rcases faultGateTargets_cases s.par s.ctl.systemState (capTargets s.par s.cmd (iCap s) s.work.tgt) with ⟨heq, -⟩ | ⟨-, hg⟩
  · exact absurd heq h
  · exact hg

/-- The up period is floored and adjusted under a fault as well (rules R342, R343). -/
theorem globalCaps_tgt_up (s : State) : (globalCaps s).work.tgt.up = rampUpFloor s.par s.cmd s.work.tgt.up := by
  by_cases h : s.ctl.systemState = .noError
  · rw [globalCaps_tgt_of_noError h]; rfl
  · rw [globalCaps_tgt_of_fault h]; rfl

/-- No more is asked for than before, nor than the ceiling (rules R340, R343). -/
theorem globalCaps_tgt_i_le (s : State) : (globalCaps s).work.tgt.i ≤ min s.work.tgt.i (iCap s) := by
  by_cases h : s.ctl.systemState = .noError
  · exact (congrArg Targets.i (globalCaps_tgt_of_noError h)).le
  · rw [globalCaps_tgt_of_fault h]; exact Nat.zero_le _

theorem targetsInRange_globalCaps {s : State} (hw : s.par.wf = true) : TargetsInRange s.par (globalCaps s).work.tgt :=
  targetsInRange_faultGate hw _ (targetsInRange_capTargets hw s.cmd (iCap_le s) s.work.tgt)

/-- The staged registers hold the working values exactly (rule R344). -/
theorem globalCaps_pend {s : State} (hw : s.par.wf = true) :
    (globalCaps s).pend.iTarget.toNat = (globalCaps s).work.tgt.i
    ∧ (globalCaps s).pend.dutyTarget.toNat = (globalCaps s).work.tgt.dutyTgt
    ∧ (globalCaps s).pend.rampUpPeriod.toNat = (globalCaps s).work.tgt.up
    ∧ (globalCaps s).pend.rampDownPeriod.toNat = (globalCaps s).work.tgt.down := by
  obtain ⟨⟨hduty, hi, -⟩, ⟨-, hup⟩, -, hdown⟩ := targetsInRange_globalCaps hw
  exact ⟨sat_toNat_of_lt 16 _ (hi.trans_lt (iAdcMax_of_wf hw)),
    sat_toNat_of_lt 8 _ (Nat.lt_succ_of_le (hduty.trans (dutyMax_of_wf hw).2)), sat_toNat_of_lt 8 _ (Nat.lt_succ_of_le hup),
    sat_toNat_of_lt 8 _ (Nat.lt_succ_of_le hdown)⟩

end Sys2Proof.Laws

namespace Sys2Proof.Settled

open Sys2Proof.Laws Sys2Proof.Machine

/-- Settles O48: the staged registers are the working values, and those are the capped ones or what the gate makes of them. -/
theorem globalCaps : Obligations.GlobalCaps := by
  intro s hw
  obtain ⟨hi, hduty, hup, hdown⟩ := globalCaps_pend hw
  refine ⟨Machine.globalCaps s, rfl, globalCaps_frame s, iCap s, _, _, rfl, rfl, rfl, ?_, fun h => ?_, fun h => ?_, ?_⟩
  · rw [hup, globalCaps_tgt_up]
    rfl
  · rw [hi, hduty, hdown, globalCaps_tgt_of_noError h]
    exact ⟨rfl, rfl, rfl⟩
  · rw [hi, hduty, hdown, globalCaps_tgt_of_fault h]
    exact ⟨rfl, rfl, rfl⟩
  · rw [hi, hduty, hup, hdown]

end Sys2Proof.Settled
end

section
/-! PROOFS. What a tick stages (rule R345): the limiters one by one, then TICK_BEGIN from FAULT_DETECT on, where the current asked for can
only fall after the throttle's branch. -/

namespace Sys2Proof.Laws

open Sys2Proof.Machine

/-! ### The limiters (rule R345 (v)) -/

/-- A map that falls to 0 never raises the value it scales (rule R12). -/
theorem linMap_to_zero_le (x inLo inHi i : Nat) : linMap x inLo inHi i 0 ≤ i :=
  (linMap_bounds x inLo inHi i 0).2.trans_eq (Nat.max_eq_left (Nat.zero_le i))

theorem speedLimitCurrent_le (p : Params) (m speed i : Nat) : speedLimitCurrent p m speed i ≤ i := by
  rcases Nat.lt_or_ge 50 m with h | h
  · rw [speedLimitCurrent_of_gt p h]; exact linMap_to_zero_le _ _ _ _
  · rw [speedLimitCurrent_of_le p h]; exact linMap_to_zero_le _ _ _ _

section Limiters

variable {s : State} {x : U12}

/-- The speed limit never raises what the branch leaves (rule R336). -/
theorem postProcess_i_le_auxBranch : (postProcess x s).work.tgt.i ≤ (auxBranch x s).work.tgt.i := by
  rw [postProcess_tgt]
  exact speedLimitCurrent_le _ _ _ _

/-- The throttle's branch leaves the larger of the two currents (rule R328). -/
theorem auxBranch_i_of_throttle (h : effAuxFunction s = .throttle) :
    (auxBranch x s).work.tgt.i = max s.work.tgt.i (linMap x.toNat s.par.thrAdcMin s.par.thrAdcMax 0 (iCap s)) := by
  rcases Nat.lt_or_ge s.work.tgt.i (linMap x.toNat s.par.thrAdcMin s.par.thrAdcMax 0 (iCap s)) with hlt | hge
  · rw [throttle_tgt_of_lt h hlt, Nat.max_eq_right hlt.le]
  · rw [throttle_tgt_of_le h hge, Nat.max_eq_left hge]

/-- Every other branch never raises the current (rules R327, R332). -/
theorem auxBranch_i_le (h : effAuxFunction s ≠ .throttle) : (auxBranch x s).work.tgt.i ≤ s.work.tgt.i := by
  cases hf : effAuxFunction s with
  | throttle => exact absurd hf h
  | noFunction => rw [auxBranch_of_unused (.inl hf)]; rfl
  | reserved => rw [auxBranch_of_unused (.inr hf)]; rfl
  | temperature =>
    rcases Nat.lt_or_ge s.cfg.tempMin.toNat s.cfg.tempMax.toNat with hlt | hge
    · rw [temperature_tgt_of_range hf hlt]; exact linMap_to_zero_le _ _ _ _
    · rw [temperature_tgt_of_misconfigured hf hge]; exact Nat.zero_le _

/-- No current asked for stays no current, unless the throttle asks for some (rules R328, R345 (iv)). -/
theorem auxBranch_i_eq_zero (hi : s.work.tgt.i = 0)
    (hthr : effAuxFunction s = .throttle → linMap x.toNat s.par.thrAdcMin s.par.thrAdcMax 0 (iCap s) = 0) :
    (auxBranch x s).work.tgt.i = 0 := by
  by_cases h : effAuxFunction s = .throttle
  · rw [auxBranch_i_of_throttle h, hi, hthr h, Nat.max_self]
  · exact Nat.le_zero.mp (hi ▸ auxBranch_i_le h)

/-- The three clauses of rule R345 (v) hold of a branch and the limit after it. -/
theorem limitersSafe_auxBranch : LimitersSafe (effAuxFunction s) s (auxBranch x s) (postProcess x s) :=
  ⟨fun h => (Nat.le_max_left _ _).trans_eq (auxBranch_i_of_throttle h).symm, auxBranch_i_le, postProcess_i_le_auxBranch⟩

/-- A row of format AUXF with the sample checked completes with its branch where its function is the effective one (log entry 2). -/
theorem auxRow_runs (hx : x.toNat ≤ s.par.adcAuxMaxSample) : ∀ r ∈ ([(.auxfNone, .noFunction), (.auxfThrottle x, .throttle),
      (.auxfTemperature x, .temperature)] : List (Instr × AuxFunction)),
    effAuxFunction s = r.2 → exec r.1 s = .next (auxBranch x s) := by
  simp only [List.forall_mem_cons]
  refine ⟨fun h => ?_, fun h => ?_, fun h => ?_, List.forall_mem_nil _⟩
  · rw [auxBranch_of_unused (.inl h)]
    exact (auxRow_of_held _ h).trans (congrArg _ (auxBranch_of_unused (.inl h)))
  · exact (exec_auxfThrottle hx).trans (auxRow_of_held _ h)
  · exact (exec_auxfTemperature hx).trans (auxRow_of_held _ h)

/-- AUXF.THROTTLE completes only with the throttle's branch. -/
theorem auxfThrottle_next {t : State} (h : exec (.auxfThrottle x) s = .next t) :
    effAuxFunction s = .throttle ∧ t = auxBranch x s := by
  have hrow : execAuxfThrottle x s = .next t := h
  unfold execAuxfThrottle at hrow
  split at hrow
  · obtain ⟨hf, rfl⟩ := (guarded_eq_next _ _ _ _).mp hrow
    exact ⟨of_decide_eq_true hf, rfl⟩
  · cases hrow

end Limiters

/-! ### No torque, no assist (rule R345 (iv)) -/

/-- LINEARIZE starts at the origin whatever the table (rule R286). -/
theorem linearize_zero (cfg : CfgRec) : linearize cfg 0 = 0 := by
  rw [linearize_of_le (Nat.zero_le _), segment_linOrigin, Nat.zero_mul, Nat.zero_div]

theorem torqueOf_zero (p : Params) (cfg : CfgRec) : torqueOf p cfg 0 = 0 := by
  apply (eq_zero_iff_toNat _).mpr
  rw [torqueOf_toNat, linearize_zero]
  simp

/-- A torque delta of 0 is a torque of 0, in the window and after it (rules R281, R284, R285, R287). -/
theorem tqAcquire_torque_of_delta {s : State} {x : U12} (h : (tqAcquire x s).tq.tqDelta = 0) :
    (tqAcquire x s).tq.torqueX100 = 0 := by
  rcases Nat.lt_or_ge s.tq.tqBootCnt.toNat s.par.tqZeroTicks with hopen | hclosed
  · rw [tqAcquire_tq_of_open x hopen]; rfl
  · rw [tqAcquire_tq_of_closed x hclosed] at h ⊢
    have hdelta : x.toNat - s.tq.tqOffset.toNat = 0 :=
      (sat_sample_toNat x _ (Nat.sub_le _ _)).symm.trans ((eq_zero_iff_toNat _).mp h)
    simp only [tqMeasure, hdelta, torqueOf_zero]

/-- No torque gives no current from pedal power, with the hybrid path or without (rules R305 to R307). -/
theorem powerCurrent_of_no_torque {p : Params} {cfg : CfgRec} {c : Common} (h : c.torque = 0) : powerCurrent p cfg c = 0 := by
  simp [powerCurrent, currentOfPower, h]

/-- The two assist modes ask for no current when there is no torque; eMTB where its curves start at 0 (rules R307, R313). -/
theorem assistCurrent_of_no_torque {s : State} (hmode : s.ctl.mode = .powerAssist ∨ ∀ c, emtbRead s.par.emtbTable c 0 = 0)
    (hdelta : s.tq.tqDelta = 0) (htorque : s.tq.torqueX100 = 0) : assistCurrent s = 0 := by
  unfold assistCurrent
  split
  · exact powerCurrent_of_no_torque ((eq_zero_iff_toNat _).mp htorque)
  · next hne => rw [(eq_zero_iff_toNat _).mp hdelta]; exact hmode.resolve_left hne _

theorem floorCurrent_of_no_floor {cfg : CfgRec} (h : cfg.iMinFloor = 0) (c : Common) (i : Nat) : floorCurrent cfg c i = i :=
  if_neg fun hlow => Nat.not_lt_zero i ((eq_zero_iff_toNat _).mp h ▸ hlow.2)

/-- The bonus needs both enables and an angle above its minimum (rule R326). -/
theorem angleBonus_eq_zero {s : State}
    (h : s.snap.fwAngle.toNat ≤ s.par.fwBonusMinAngle ∨ ¬(s.cfg.fwEnabled = true ∧ s.cmd.flags.getLsbD 0 = true)) :
    angleBonus s = 0 :=
  if_neg fun ⟨hcfg, hcmd, hangle⟩ => h.elim (Nat.not_le.mpr hangle) fun hoff => hoff ⟨hcfg, hcmd⟩

/-- With no floor and no bonus MODE_POLICY asks for no current where there is no torque (rules R308, R326, R345 (iv)). -/
theorem modePolicy_i_of_no_torque {s : State}
    (hmode : s.ctl.mode = .powerAssist ∨ (s.ctl.mode = .emtbAssist ∧ ∀ c, emtbRead s.par.emtbTable c 0 = 0))
    (hdelta : s.tq.tqDelta = 0) (htorque : s.tq.torqueX100 = 0) (hfloor : s.cfg.iMinFloor = 0)
    (hbonus : s.snap.fwAngle.toNat ≤ s.par.fwBonusMinAngle ∨ ¬(s.cfg.fwEnabled = true ∧ s.cmd.flags.getLsbD 0 = true)) :
    (modePolicy s).work.tgt.i = 0 := by
  have hriding : s.ctl.mode ≠ .motorCalibration := by rcases hmode with h | ⟨h, -⟩ <;> simp [h]
  calc (modePolicy s).work.tgt.i
      = floorCurrent s.cfg (assistCommon s) (assistCurrent s) + fwBonusCurrent s :=
        congrArg Targets.i (modePolicy_tgt (runPolicy_tgt_of_assist (hmode.imp_right And.left)))
    _ = 0 := by
        rw [floorCurrent_of_no_floor hfloor, assistCurrent_of_no_torque (hmode.imp_right And.right) hdelta htorque,
          fwBonusCurrent_of_riding hriding, angleBonus_eq_zero hbonus]

/-! ### The decisions of a tick -/

theorem effAuxFunction_modePolicy (u : State) : effAuxFunction (modePolicy u) = effAuxFunction u := by
  rw [modePolicy_frame]; rfl

theorem iCap_modePolicy (u : State) : iCap (modePolicy u) = iCap u := by
  rw [modePolicy_frame]; rfl

theorem iCap_postProcess (x : U12) (u : State) : iCap (postProcess x u) = iCap u := by
  rw [postProcess_frame]; rfl

/-- What the policy, the limiters and the caps make of the state `u` that FAULT_DETECT leaves: sub-operations 8 to 10 (rule R103). -/
def stageTargets (x : U12) (u : State) : State := globalCaps (postProcess x (modePolicy u))

/-- The rest of the tick from `u` on. -/
def tickDecisions (x : U12) (u : State) : State := (telemetryStage x (focUpdate (stageTargets x u))).clearWork

/-- The measurements, the control registers and the records are the same in `u` and `v`. -/
def SameInputs (u v : State) : Prop :=
  v.adc = u.adc ∧ v.tq = u.tq ∧ v.ctl = u.ctl ∧ v.cmd = u.cmd ∧ v.cfg = u.cfg ∧ v.snap = u.snap

theorem SameInputs.trans {u v w : State} (huv : SameInputs u v) (hvw : SameInputs v w) : SameInputs u w := by
  obtain ⟨hadc, htq, hctl, hcmd, hcfg, hsnap⟩ := huv
  obtain ⟨hadc', htq', hctl', hcmd', hcfg', hsnap'⟩ := hvw
  exact ⟨hadc'.trans hadc, htq'.trans htq, hctl'.trans hctl, hcmd'.trans hcmd, hcfg'.trans hcfg, hsnap'.trans hsnap⟩

theorem sameInputs_modePolicy (u : State) : SameInputs u (modePolicy u) := by
  rw [modePolicy_frame]; exact ⟨rfl, rfl, rfl, rfl, rfl, rfl⟩

theorem sameInputs_postProcess (x : U12) (u : State) : SameInputs u (postProcess x u) := by
  rw [postProcess_frame]; exact ⟨rfl, rfl, rfl, rfl, rfl, rfl⟩

theorem sameInputs_globalCaps (u : State) : SameInputs u (globalCaps u) := by
  simp [SameInputs, globalCaps, stage, faultGate]

theorem sameInputs_telemetry (x : U12) (u : State) : SameInputs u (telemetryStage x (focUpdate u)).clearWork := by
  simp [SameInputs, telemetryStage, focUpdate]

/-- The decisions write no measurement, no configuration and no command (rules R300, R327, R340). -/
theorem sameInputs_tickDecisions (x : U12) (u : State) : SameInputs u (tickDecisions x u) :=
  (((sameInputs_modePolicy u).trans (sameInputs_postProcess x _)).trans (sameInputs_globalCaps _)).trans (sameInputs_telemetry x _)

/-- What reads the staged registers after the decisions reads what GLOBAL_CAPS staged (rule R344). -/
theorem tickDecisions_pend (x : U12) {u : State} (hw : u.par.wf = true) :
    (tickDecisions x u).pend.iTarget.toNat = (stageTargets x u).work.tgt.i
    ∧ (tickDecisions x u).pend.dutyTarget.toNat = (stageTargets x u).work.tgt.dutyTgt
    ∧ (tickDecisions x u).pend.rampDownPeriod.toNat = (stageTargets x u).work.tgt.down := by
  obtain ⟨hi, hduty, -, hdown⟩ := globalCaps_pend (s := postProcess x (modePolicy u)) (by simpa using hw)
  exact ⟨hi, hduty, hdown⟩

/-- The current staged is within the ceiling and within what the branch leaves (rules R336, R340). -/
theorem stageTargets_i_le (x : U12) (u : State) :
    (stageTargets x u).work.tgt.i ≤ min (auxBranch x (modePolicy u)).work.tgt.i (iCap u) := by
  have hcaps := globalCaps_tgt_i_le (postProcess x (modePolicy u))
  rw [iCap_postProcess, iCap_modePolicy] at hcaps
  exact hcaps.trans (min_le_min_right _ postProcess_i_le_auxBranch)

theorem stageTargets_i_eq_zero {x : U12} {u : State} (h : (auxBranch x (modePolicy u)).work.tgt.i = 0) :
    (stageTargets x u).work.tgt.i = 0 := by
  have hle := stageTargets_i_le x u
  omega

/-- Nothing is asked for under a fault (rule R343). -/
theorem stageTargets_of_fault (x : U12) {u : State} (h : u.ctl.systemState ≠ .noError) :
    (stageTargets x u).work.tgt.i = 0 ∧ (stageTargets x u).work.tgt.dutyTgt = 0
      ∧ (stageTargets x u).work.tgt.down = u.par.rampDownMin := by
  have hsys : (postProcess x (modePolicy u)).ctl.systemState ≠ .noError := by
    rw [postProcess_frame, modePolicy_frame]; exact h
  rw [stageTargets, globalCaps_tgt_of_fault hsys]
  exact ⟨rfl, rfl, by simp⟩

/-- No current asked for by the policy, and none by the throttle, is none staged (rule R345 (iv)). -/
theorem stageTargets_i_of_policy {x : U12} {u : State} (hi : (modePolicy u).work.tgt.i = 0)
    (hthr : effAuxFunction u = .throttle → linMap x.toNat u.par.thrAdcMin u.par.thrAdcMax 0 (iCap u) = 0) :
    (stageTargets x u).work.tgt.i = 0 := by
  refine stageTargets_i_eq_zero (auxBranch_i_eq_zero hi fun h => ?_)
  rw [modePolicy_par, iCap_modePolicy]
  exact hthr (effAuxFunction_modePolicy u ▸ h)

/-- Misconfigured temperature limits stage no current (rules R332, R345 (vi)). -/
theorem stageTargets_i_of_misconfigured {x : U12} {u : State} (h : effAuxFunction u = .temperature)
    (hle : u.cfg.tempMax.toNat ≤ u.cfg.tempMin.toNat) : (stageTargets x u).work.tgt.i = 0 := by
  have hcfg : (modePolicy u).cfg = u.cfg := by rw [modePolicy_frame]
  refine stageTargets_i_eq_zero (congrArg Targets.i (temperature_tgt_of_misconfigured ?_ ?_))
  · rw [effAuxFunction_modePolicy, h]
  · rwa [hcfg]

/-- Rule R345 (i) to (iv) and (vi), of the decisions taken on measurements in which no torque delta is no torque. -/
theorem stagedTargetsSafe_tickDecisions (x : U12) {s u : State} (hw : u.par.wf = true) (hpar : u.par = s.par)
    (hcfg : u.cfg = s.cfg) (htorque : u.tq.tqDelta = 0 → u.tq.torqueX100 = 0) : StagedTargetsSafe x s (tickDecisions x u) := by
  obtain ⟨hi, hduty, hdown⟩ := tickDecisions_pend x hw
  obtain ⟨⟨-, -, hzero⟩, -⟩ := targetsInRange_globalCaps (s := postProcess x (modePolicy u)) (by simpa using hw)
  have hcap : (stageTargets x u).work.tgt.i ≤ min u.par.iAdcMax (effIMax u) :=
    (stageTargets_i_le x u).trans ((Nat.min_le_right _ _).trans (Nat.min_le_left _ _))
  have hzero' : (stageTargets x u).work.tgt.i = 0 → (stageTargets x u).work.tgt.dutyTgt = 0 := hzero
  obtain ⟨hadc, htq, hctl, hcmd, hcfg', hsnap⟩ := sameInputs_tickDecisions x u
  unfold StagedTargetsSafe
  rw [hi, hduty, hdown, hadc, htq, hctl, hcmd, hcfg', hsnap, ← hpar, ← hcfg]
  rintro f cap (rfl : f = effAuxFunction u) (rfl : cap = iCap u)
  refine ⟨hcap, hzero', stageTargets_of_fault (u := u) x, fun hmode hdelta hfloor hbonus hthr => ?_, stageTargets_i_of_misconfigured⟩
  have hnone := stageTargets_i_of_policy (modePolicy_i_of_no_torque hmode hdelta (htorque hdelta) hfloor hbonus) hthr
  exact ⟨hnone, hzero' hnone⟩

/-! ### The tick -/

/-! The measurements leave the parameters and the configuration (rules R40, R70). -/

theorem tickMeasure_par (q : U12) (s : State) : (tickMeasure q s).par = s.par := by simp [tickMeasure]

theorem cmdLatch_cfg (s : State) : (cmdLatch s).cfg = s.cfg :=
  cmdLatch_elim (P := fun u => u.cfg = s.cfg) fun _ _ _ _ _ _ _ => rfl

theorem tickMeasure_cfg (q : U12) (s : State) : (tickMeasure q s).cfg = s.cfg := by
  simp [tickMeasure, tqAcquire, cadRpm, whlSpeed, vbatFilter, snapshot, cmdLatch_cfg]

/-- A torque delta of 0 is a torque of 0 in what TQ_ACQUIRE leaves for the decisions. -/
theorem tickMeasure_torque {q : U12} {s : State} (h : (tickMeasure q s).tq.tqDelta = 0) :
    (tickMeasure q s).tq.torqueX100 = 0 := by
  rw [tickMeasure] at h ⊢
  exact tqAcquire_torque_of_delta h

theorem faultDetect_cfg (s : State) : (faultDetect s).cfg = s.cfg := rfl

theorem faultDetect_tq (s : State) : (faultDetect s).tq = s.tq := rfl

/-- A tick that completes is its measurements, FAULT_DETECT and the decisions (rules R103, R355). -/
theorem tickBegin_next {x q : U12} {s t : State} (h : exec (.tickBegin x q) s = .next t) :
    t = tickDecisions x (faultDetect (tickMeasure q (s.withAsst { s.asst with tickOpen := true }))) := by
  have htick : execTickBegin x q s = .next t := h
  unfold execTickBegin at htick
  split at htick
  · split at htick
    · cases htick
    · obtain ⟨-, rfl⟩ := (guarded_eq_next _ _ _ _).mp htick
      rw [tickBegin, tickDecide, tickDecisions, stageTargets]
  · cases htick

end Sys2Proof.Laws

namespace Sys2Proof.Settled

open Sys2Proof.Laws Sys2Proof.Machine

/-- Settles O49: the staged targets from the decisions of the tick, then the limiters by row, the throttle and the others. -/
theorem tickTargets : Obligations.TickTargets := by
  refine ⟨fun s t x q hw h => ?_, fun s x _ hx r hr hf => ?_, fun s t x h => ?_, fun s t x _ h hf => ?_⟩
  · rw [tickBegin_next h]
    refine stagedTargetsSafe_tickDecisions x ?_ ?_ ?_ ?_
    · rwa [faultDetect_par, tickMeasure_par]
    · rw [faultDetect_par, tickMeasure_par, State.withAsst_par]
    · rw [faultDetect_cfg, tickMeasure_cfg, State.withAsst_cfg]
    · rw [faultDetect_tq]
      exact tickMeasure_torque
  · obtain hf : r.2 = effAuxFunction s := hf
    exact ⟨_, _, auxRow_runs hx r hr hf.symm, exec_postProcess hx, hf ▸ limitersSafe_auxBranch⟩
  · obtain ⟨hf, rfl⟩ := auxfThrottle_next h
    exact (Nat.le_max_left _ _).trans_eq (auxBranch_i_of_throttle hf).symm
  · obtain ⟨-, rfl⟩ := (guarded_eq_next _ _ _ _).mp h
    exact postProcess_i_le_auxBranch.trans (auxBranch_i_le hf)

end Sys2Proof.Settled
end

section
/-! PROOFS. The block's two flags (rule R33): what each sub-operation makes of them, so of every instruction that completes, and that an
event that keeps the environment's promises completes (rules R357, R425, R431 to R435). -/

namespace Sys2Proof.Laws

open Sys2Proof.Machine

/-! ### What writes the flags -/

/-- The configuration loaded and the tick open (rules R353, R355). -/
def flags (s : State) : Bool × Bool := (s.asst.cfgValid, s.asst.tickOpen)

/-- What a sub-operation makes of the two flags: RESET clears them, a load sets one, a tick sets and clears the other. -/
def SubOp.flagsAfter : SubOp → Bool × Bool → Bool × Bool
  | .reset, _ => (false, false)
  | .cfgLoad _, (_, tick) => (true, tick)
  | .openTick, (cfg, _) => (cfg, true)
  | .closeTick, (cfg, _) => (cfg, false)
  | _, f => f

/-- No other sub-operation writes them. -/
theorem SubOp.flags_run (x : SubOp) (s : State) : flags (x.run s) = x.flagsAfter (flags s) := by
  cases x with
  | hallEdge tick hall => exact hallEdge_elim (P := fun t => flags t = flags s) tick hall fun _ => rfl
  | stallCheck tick => exact stallCheck_elim (P := fun t => flags t = flags s) tick (fun _ _ => rfl) fun _ => rfl
  | cmdLatch => exact cmdLatch_elim (P := fun t => flags t = flags s) fun _ _ _ _ _ _ _ => rfl
  | faultDetect =>
    have hframe := congrArg (fun a : AssistState => (a.cfgValid, a.tickOpen)) (mbUpdate_frame s.par (blockedNow s) s.asst)
    exact hframe
  | runPolicy => exact runPolicy_elim (P := fun t => flags t = flags s) fun _ _ _ _ _ => rfl
  | cruiseIfLatched => exact cruiseIfLatched_elim (P := fun t => flags t = flags s) fun _ _ _ _ _ => rfl
  | auxBranch a => exact auxBranch_elim (P := fun t => flags t = flags s) a fun _ _ => rfl
  | pwmGate => exact pwmGate_elim (P := fun t => flags t = flags s) rfl rfl fun _ => rfl
  | _ => rfl

/-- The flags after a run are those of its sub-operations in order. -/
theorem SubRun.flags_eq {l : List SubOp} {s t : State} (h : SubRun l s t) :
    flags t = l.foldl (fun f x => x.flagsAfter f) (flags s) := by
  induction l generalizing s with
  | nil => cases h; rfl
  | cons x l ih =>
    obtain ⟨-, hrest⟩ := h
    rw [ih hrest, x.flags_run, List.foldl_cons]

/-- The flags after an instruction that completes. -/
theorem flags_of_exec {i : Instr} {s t : State} (h : exec i s = .next t) :
    flags t = (subOps i).foldl (fun f x => x.flagsAfter f) (s.asst.cfgValid, s.asst.tickOpen) :=
  (subRun_of_exec h).flags_eq

/-! ### Intakes that complete (rules R353, R354) -/

theorem exec_cfgLoad {r : CfgRec} (s : State) (h : r.legal = true) : exec (.cfgLoad r) s = .next (cfgLoad r s) :=
  guarded_of_true _ _ h

/-- CMD_RX on a configured block depends on its record alone (rule R354). -/
theorem exec_cmdRx {s : State} (r : CmdRec) (hcfg : s.asst.cfgValid = true) :
    exec (.cmdRx r) s = guarded r.legal .reservedAuxFunction (cmdRx r s) :=
  if_pos hcfg

/-! ### The promises (rule R357) -/

section Promises

variable {e : Env} {i : Instr} {time : Nat} {s : State}

/-- An event that keeps the promises is never refused: what its operation checks is what was promised. -/
theorem exec_of_admits (hs : e.agrees s) (ha : e.admits s.par i time = true) : ∃ t, exec i s = .next t := by
  obtain ⟨⟨hloaded, htick⟩, htickLoaded, hbootLoaded⟩ := hs
  obtain ⟨hwf, hkept⟩ := Bool.and_eq_true_iff.mp ha
  cases i with
  | reset => exact ⟨_, rfl⟩
  | cfgLoad r => exact ⟨_, exec_cfgLoad s hwf⟩
  | cmdRx r => exact ⟨_, (exec_cmdRx r (hloaded ▸ hkept)).trans (guarded_of_true _ _ hwf)⟩
  | hallEdge tick hall =>
    obtain ⟨hl, -⟩ := Bool.and_eq_true_iff.mp hkept
    exact ⟨_, exec_hallEdge_of_configured (hloaded ▸ hl) tick hall⟩
  | pwmRising v x brake whl pas =>
    obtain ⟨hb, -⟩ := Bool.and_eq_true_iff.mp hkept
    obtain ⟨hv, hx⟩ := Bool.and_eq_true_iff.mp hwf
    exact ⟨_, exec_pwmRising brake whl pas (hloaded ▸ hbootLoaded hb) ((adcOk_iff _ _).mp hv) ((adcOk_iff _ _).mp hx)⟩
  | pwmFalling tick =>
    obtain ⟨hhalf, -⟩ := Bool.and_eq_true_iff.mp hkept
    obtain ⟨hb, -⟩ := Bool.and_eq_true_iff.mp hhalf
    exact ⟨_, exec_pwmFalling tick (hloaded ▸ hbootLoaded hb)⟩
  | tickBegin x q =>
    obtain ⟨hl, hclosed⟩ := Bool.and_eq_true_iff.mp hkept
    obtain ⟨hx, hq⟩ := Bool.and_eq_true_iff.mp hwf
    have hopen : s.asst.tickOpen = false := htick ▸ (Bool.not_eq_true' _).mp hclosed
    exact ⟨_, exec_tickBegin (hloaded ▸ hl) hopen ((adcOk_iff _ _).mp hx) ((adcOk_iff _ _).mp hq)⟩
  | tickEnd =>
    exact ⟨_, (exec_tickEnd (hloaded ▸ htickLoaded hkept)).trans (guarded_of_true _ _ (htick ▸ hkept))⟩
  | _ => cases hkept

/-- The flags and what is remembered of a load and a boot are all there is to agree on. -/
theorem agrees_of_flags {t : State} (hf : flags t = (e.loaded, e.inTick)) (ht : e.inTick = true → e.loaded = true)
    (hb : e.booted = true → e.loaded = true) : e.agrees t :=
  ⟨⟨(congrArg Prod.fst hf).symm, (congrArg Prod.snd hf).symm⟩, ht, hb⟩

/-- What is remembered of the event is what it makes of the flags. -/
theorem agrees_after {t : State} (hs : e.agrees s) (ha : e.admits s.par i time = true) (h : exec i s = .next t) :
    (e.after i time).agrees t := by
  obtain ⟨⟨hloaded, htick⟩, htickLoaded, hbootLoaded⟩ := hs
  obtain ⟨-, hkept⟩ := Bool.and_eq_true_iff.mp ha
  have hflags := flags_of_exec h
  rw [← hloaded, ← htick] at hflags
  cases i with
  | reset => exact agrees_of_flags hflags nofun nofun
  | cfgLoad r => exact agrees_of_flags hflags (fun _ => rfl) fun _ => rfl
  | hallEdge tick hall =>
    obtain ⟨hl, -⟩ := Bool.and_eq_true_iff.mp hkept
    exact agrees_of_flags hflags htickLoaded fun _ => hl
  | tickBegin x q =>
    obtain ⟨hl, -⟩ := Bool.and_eq_true_iff.mp hkept
    exact agrees_of_flags hflags (fun _ => hl) hbootLoaded
  | tickEnd => exact agrees_of_flags hflags nofun hbootLoaded
  | cmdRx | pwmRising | pwmFalling => exact agrees_of_flags hflags htickLoaded hbootLoaded
  | _ => cases hkept

end Promises

end Sys2Proof.Laws

namespace Sys2Proof.Settled

open Sys2Proof.Laws Sys2Proof.Machine

/-- Settles O17: the event completes, and its flags are read off its sub-operations. -/
theorem promisedEventsComplete : Obligations.PromisedEventsComplete := fun _ _ _ _ hs ha => by
  obtain ⟨t, ht⟩ := exec_of_admits hs ha
  exact ⟨t, ht, agrees_after hs ha ht⟩

end Sys2Proof.Settled
end

section
/-! PROOFS. The operations that take in a record, only copy registers, or stage the telemetry (rules R167, R351, R353, R354, R356, R358,
R364), and RESET (rule R420). -/

namespace Sys2Proof.Laws

open Sys2Proof.Machine

/-! ### Record intake -/

/-- A command record that does not carry the reserved function is taken into the mailbox (rule R354). -/
theorem exec_cmdRx_of_legal {s : State} {r : CmdRec} (hcfg : s.asst.cfgValid = true)
    (h : ¬(r.hasAuxFunction = true ∧ r.auxFunction = .reserved)) : exec (.cmdRx r) s = .next (cmdRx r s) :=
  (exec_cmdRx r hcfg).trans (guarded_of_true _ _ ((cmdRec_legal_iff r).mpr (not_and.mp h)))

/-- One that carries it is refused (rules R112, R354). -/
theorem exec_cmdRx_of_reserved {s : State} {r : CmdRec} (hcfg : s.asst.cfgValid = true) (haux : r.hasAuxFunction = true)
    (hres : r.auxFunction = .reserved) : exec (.cmdRx r) s = .refused .reservedAuxFunction :=
  (exec_cmdRx r hcfg).trans
    (guarded_of_false _ _ (Bool.eq_false_iff.mpr fun hlegal => (cmdRec_legal_iff r).mp hlegal haux hres))

/-! ### Telemetry -/

/-- A percentage of a nonzero whole is at most 100, and 100 at the whole alone. -/
theorem percent_le {m d : Nat} (hm : 0 < m) (hd : d ≤ m) : d * 100 / m ≤ 100 ∧ (d * 100 / m = 100 ↔ d = m) := by
  have hle : d * 100 / m ≤ 100 := Nat.div_le_of_le_mul (Nat.mul_le_mul_right 100 hd)
  refine ⟨hle, fun h => ?_, fun h => ?_⟩
  · have hmul : 100 * m ≤ d * 100 := (Nat.le_div_iff_mul_le hm).mp h.ge
    omega
  · rw [h, Nat.mul_div_cancel_left 100 hm]

/-- The duty cycle in percent fits its register (rule R364). -/
theorem telemetryOf_dutyPct_toNat {s : State} (x : U12) (hw : s.par.wf = true) (hd : s.snap.duty.toNat ≤ s.par.dutyMax) :
    (telemetryOf x s).dutyPct.toNat = s.snap.duty.toNat * 100 / s.par.dutyMax :=
  sat_toNat_of_lt 8 _ ((percent_le (dutyMax_of_wf hw).1 hd).1.trans_lt (by decide))

/-- Full duty cycle, and it alone, is reported as 100 percent (rule R364). -/
theorem telemetryOf_dutyPct_eq_iff {s : State} (x : U12) (hw : s.par.wf = true) (hd : s.snap.duty.toNat ≤ s.par.dutyMax) :
    (telemetryOf x s).dutyPct.toNat = 100 ↔ s.snap.duty.toNat = s.par.dutyMax := by
  rw [telemetryOf_dutyPct_toNat x hw hd]
  exact (percent_le (dutyMax_of_wf hw).1 hd).2

/-- The capture counts are reported while calibrating (rule R364). -/
theorem telemetryOf_cal_of_calibrating {s : State} (x : U12) (h : s.ctl.mode = .motorCalibration) :
    (telemetryOf x s).hasCal = true ∧ (telemetryOf x s).calTicks = s.snap.calTicks := by
  simp [telemetryOf, h]

theorem telemetryOf_cal_of_riding {s : State} (x : U12) (h : s.ctl.mode ≠ .motorCalibration) :
    (telemetryOf x s).hasCal = false ∧ (telemetryOf x s).calTicks = zeroTicks := by
  simp [telemetryOf, h]

/-! ### The widths of the reset values (rule R7) -/

theorem revTicksInvalid_of_wf {p : Params} (h : p.wf = true) : p.revTicksInvalid < 65536 := by
  simpa using check_of_wf h (c := ("REV_TICKS_INVALID", decide (p.revTicksInvalid < 65536))) (by simp [Params.checks])

end Sys2Proof.Laws

namespace Sys2Proof.Settled

open Sys2Proof.Laws Sys2Proof.Machine

/-- Settles O20: each record by its legality, and no command before a configuration. -/
theorem recordIntake : Obligations.RecordIntake :=
  ⟨fun s _ => exec_cfgLoad s, fun _ _ => exec_cmdRx_of_legal, fun _ _ => exec_cmdRx_of_reserved,
    fun s _ => exec_cfgLoad_of_illegal s, fun _ r h => exec_cmdRx_of_unconfigured h r⟩

/-- Settles O26: each of the three is the copy by definition. -/
theorem registerCopies : Obligations.RegisterCopies := ⟨fun _ => rfl, fun _ => rfl, fun _ => rfl⟩

/-- Settles O52: the fields that are copied, then the percentage, the fault code and the capture counts. -/
theorem telemetryStage : Obligations.TelemetryStage := by
  intro s x hw hx hd
  have haux : (x.setWidth 16).toNat = x.toNat := BitVec.toNat_setWidth_of_le (by decide)
  exact ⟨_, exec_telemetryStage hx, rfl, rfl, rfl, rfl, rfl, haux, rfl, rfl, telemetryOf_dutyPct_toNat x hw hd,
    telemetryOf_dutyPct_eq_iff x hw hd, rfl, rfl, congrArg sysCode, congrArg sysCode, congrArg sysCode, congrArg sysCode, rfl, rfl,
    telemetryOf_cal_of_calibrating x, telemetryOf_cal_of_riding x⟩

/-- Settles O19: the registers with a reset value of their own parameter fit it, the others are 0 or unset. -/
theorem resetRegisters : Obligations.ResetRegisters := by
  intro s hw
  have hrev : (sat 16 s.par.revTicksInvalid).toNat = s.par.revTicksInvalid := sat_toNat_of_lt 16 _ (revTicksInvalid_of_wf hw)
  have hup : (sat 8 s.par.rampUpDefault).toNat = s.par.rampUpDefault := sat_toNat_of_lt 8 _ (rampUpDefault_of_wf hw).2
  have hdown : (sat 8 s.par.rampDownDefault).toNat = s.par.rampDownDefault := sat_toNat_of_lt 8 _ (rampDownDefault_of_wf hw).2
  have hstop : (sat 16 s.par.cadStopTicksSlow).toNat = s.par.cadStopTicksSlow := sat_toNat_of_lt 16 _ (cadStopTicks_of_wf hw).1
  exact ⟨resetState s, rfl,
    ⟨rfl, rfl, rfl, rfl, rfl, rfl, rfl, rfl, hrev, rfl, rfl⟩,
    ⟨fun hmid => sat_toNat_of_lt 16 _ hmid, rfl, rfl, rfl, rfl, rfl, rfl⟩,
    ⟨rfl, rfl, rfl, rfl, hup, hdown, rfl, rfl, rfl⟩,
    rfl,
    ⟨rfl, rfl, rfl, rfl, rfl, hstop, hstop, rfl⟩,
    rfl, rfl, rfl, ⟨rfl, rfl, rfl⟩, rfl,
    ⟨rfl, rfl, hup, hdown, rfl, hstop, rfl, rfl⟩,
    rfl, rfl⟩

end Sys2Proof.Settled
end

section
/-! PROOFS. The battery filters (rules R360, R361) and the latched pins (rule R351). Between `x` and the accumulator of a constant input
`x`, `x * 2^k`, a filter step moves towards it and never past it. -/

namespace Sys2Proof.Laws

open Sys2Proof.Machine

/-! ### One step towards a constant input -/

section LowPass

variable {k acc x : Nat}

/-- Up to the input's own accumulator. -/
theorem lowPass_le_input (h : acc ≤ x * 2 ^ k) : lowPass k acc x ≤ x * 2 ^ k := lowPass_le k x acc x h le_rfl

/-- Down to it. -/
theorem input_le_lowPass (h : x * 2 ^ k ≤ acc) : x * 2 ^ k ≤ lowPass k acc x := by
  have hmono := sub_shr_mono k _ _ h
  have hshr : shr (x * 2 ^ k) k = x := Nat.mul_div_cancel x (Nat.two_pow_pos k)
  have hx : x ≤ x * 2 ^ k := Nat.le_mul_of_pos_right x (Nat.two_pow_pos k)
  simp only [lowPass]
  omega

/-- A filtered value below the input: the accumulator rises, the filtered value not past the input. -/
theorem lowPass_of_below (h : acc / 2 ^ k < x) : acc < lowPass k acc x ∧ lowPass k acc x ≤ x * 2 ^ k := by
  have hacc : acc ≤ x * 2 ^ k := ((Nat.div_lt_iff_lt_mul (Nat.two_pow_pos k)).mp h).le
  have hshr : acc / 2 ^ k ≤ acc := Nat.div_le_self _ _
  refine ⟨?_, lowPass_le_input hacc⟩
  simp only [lowPass, shr]
  omega

/-- Above the input: the mirror image. -/
theorem lowPass_of_above (h : x < acc / 2 ^ k) : lowPass k acc x < acc ∧ x * 2 ^ k ≤ lowPass k acc x := by
  have hacc : x * 2 ^ k ≤ acc := (Nat.le_div_iff_mul_le (Nat.two_pow_pos k)).mp h.le
  have hshr : acc / 2 ^ k ≤ acc := Nat.div_le_self _ _
  refine ⟨?_, input_le_lowPass hacc⟩
  simp only [lowPass, shr]
  omega

/-- At the input the filter rests. -/
theorem lowPass_of_at (h : acc / 2 ^ k = x) : lowPass k acc x = acc := by
  have hshr : acc / 2 ^ k ≤ acc := Nat.div_le_self _ _
  simp only [lowPass, shr]
  omega

/-- How far the accumulator is from that of the input. -/
def inputDist (k acc x : Nat) : Nat := (acc - x * 2 ^ k) + (x * 2 ^ k - acc)

/-- Away from the input every step comes nearer. -/
theorem inputDist_lowPass_lt (h : acc / 2 ^ k ≠ x) : inputDist k (lowPass k acc x) x < inputDist k acc x := by
  rcases Nat.lt_or_gt_of_ne h with hbelow | habove
  · obtain ⟨hrise, hle⟩ := lowPass_of_below hbelow
    simp only [inputDist]
    omega
  · obtain ⟨hfall, hge⟩ := lowPass_of_above habove
    simp only [inputDist]
    omega

end LowPass

/-! ### VBAT_FILTER (rule R361) -/

/-- The shift of the voltage filter (rule R7). -/
theorem vShift_of_wf {p : Params} (h : p.wf = true) : p.vShift ≤ 8 := by
  simpa using check_of_wf h (c := ("V_SHIFT", decide (p.vShift ≤ 8))) (by simp [Params.checks])

/-- The accumulator is in the range of rule R361 for samples of 16 bits, and the filtered value is its shift. -/
def VbatInv (s : State) : Prop :=
  s.adc.vbatAcc.toNat ≤ 65535 * 2 ^ s.par.vShift ∧ s.adc.vbatFilt.toNat = s.adc.vbatAcc.toNat / 2 ^ s.par.vShift

/-- A filter step is within the range again. -/
theorem lowPass_vbat_le {s : State} (hs : VbatInv s) :
    lowPass s.par.vShift s.adc.vbatAcc.toNat s.snap.vbatRaw.toNat ≤ 65535 * 2 ^ s.par.vShift :=
  lowPass_le _ _ _ _ hs.1 (Nat.le_of_lt_succ s.snap.vbatRaw.isLt)

section Vbat

variable {s : State} (hw : s.par.wf = true) (hs : VbatInv s)
include hw hs

/-- The range fits the accumulator, so nothing is narrowed. -/
theorem vbatFilter_vbatAcc_toNat :
    (vbatFilter s).adc.vbatAcc.toNat = lowPass s.par.vShift s.adc.vbatAcc.toNat s.snap.vbatRaw.toNat := by
  have hbound : 65535 * 2 ^ s.par.vShift < 2 ^ 32 :=
    (Nat.mul_le_mul_left 65535 (Nat.pow_le_pow_right (by decide) (vShift_of_wf hw))).trans_lt (by decide)
  exact sat_toNat_of_lt 32 _ ((lowPass_vbat_le hs).trans_lt hbound)

theorem vbatInv_vbatFilter : VbatInv (vbatFilter s) := by
  have hacc : (vbatFilter s).adc.vbatAcc.toNat ≤ 65535 * 2 ^ s.par.vShift :=
    (vbatFilter_vbatAcc_toNat hw hs).trans_le (lowPass_vbat_le hs)
  have hfilt := Nat.div_le_of_le_mul (Nat.mul_comm 65535 _ ▸ hacc)
  exact ⟨hacc, sat_shr_toNat _ _ (Nat.lt_succ_of_le hfilt)⟩

/-- Below the input the accumulator rises and the filtered value does not pass it. -/
theorem vbatFilter_of_below (h : s.adc.vbatFilt.toNat < s.snap.vbatRaw.toNat) :
    s.adc.vbatAcc.toNat < (vbatFilter s).adc.vbatAcc.toNat ∧ (vbatFilter s).adc.vbatFilt.toNat ≤ s.snap.vbatRaw.toNat := by
  rw [(vbatInv_vbatFilter hw hs).2, vbatFilter_vbatAcc_toNat hw hs]
  obtain ⟨hrise, hle⟩ := lowPass_of_below (hs.2 ▸ h)
  exact ⟨hrise, Nat.div_le_of_le_mul (hle.trans_eq (Nat.mul_comm _ _))⟩

/-- Above it, the mirror image. -/
theorem vbatFilter_of_above (h : s.snap.vbatRaw.toNat < s.adc.vbatFilt.toNat) :
    (vbatFilter s).adc.vbatAcc.toNat < s.adc.vbatAcc.toNat ∧ s.snap.vbatRaw.toNat ≤ (vbatFilter s).adc.vbatFilt.toNat := by
  rw [(vbatInv_vbatFilter hw hs).2, vbatFilter_vbatAcc_toNat hw hs]
  obtain ⟨hfall, hge⟩ := lowPass_of_above (hs.2 ▸ h)
  exact ⟨hfall, (Nat.le_div_iff_mul_le (Nat.two_pow_pos _)).mpr hge⟩

/-- At it nothing changes. -/
theorem vbatFilter_of_at (h : s.adc.vbatFilt.toNat = s.snap.vbatRaw.toNat) : vbatFilter s = s := by
  have hacc : (vbatFilter s).adc.vbatAcc = s.adc.vbatAcc :=
    BitVec.eq_of_toNat_eq ((vbatFilter_vbatAcc_toNat hw hs).trans (lowPass_of_at (hs.2 ▸ h)))
  have hfilt : (vbatFilter s).adc.vbatFilt = s.adc.vbatFilt :=
    BitVec.eq_of_toNat_eq ((vbatInv_vbatFilter hw hs).2.trans (by rw [hacc, hs.2]; rfl))
  calc vbatFilter s
      = s.withAdc { s.adc with vbatAcc := (vbatFilter s).adc.vbatAcc, vbatFilt := (vbatFilter s).adc.vbatFilt } := rfl
    _ = s := by rw [hacc, hfilt, State.withAdc_self]

end Vbat

/-! A run of filter steps (rule R361). -/

section VbatRun

variable {run : Nat → State} (hw : (run 0).par.wf = true) (h0 : VbatInv (run 0)) (hstep : ∀ k, run (k + 1) = vbatFilter (run k))
include hw h0 hstep

/-- The input and the parameters stay, and so does the range. -/
theorem vbatRun_inv (k : Nat) : (run k).par = (run 0).par ∧ (run k).snap = (run 0).snap ∧ VbatInv (run k) := by
  induction k with
  | zero => exact ⟨rfl, rfl, h0⟩
  | succ k ih =>
    obtain ⟨hpar, hsnap, hinv⟩ := ih
    rw [hstep k]
    exact ⟨hpar, hsnap, vbatInv_vbatFilter (hpar ▸ hw) hinv⟩

/-- The input is reached: the distance to it cannot shrink for ever. -/
theorem vbatRun_reaches : ∃ n, (run n).adc.vbatFilt.toNat = (run 0).snap.vbatRaw.toNat := by
  obtain ⟨n, hn⟩ := WellFounded.not_rel_apply_succ (r := (· < ·))
    fun k => inputDist (run 0).par.vShift (run k).adc.vbatAcc.toNat (run 0).snap.vbatRaw.toNat
  obtain ⟨hpar, hsnap, hinv⟩ := vbatRun_inv hw h0 hstep n
  refine ⟨n, by_contra fun hne => hn ?_⟩
  rw [hstep n, vbatFilter_vbatAcc_toNat (hpar ▸ hw) hinv, hpar, hsnap]
  rw [hinv.2, hpar] at hne
  exact inputDist_lowPass_lt hne

/-- Once reached it is kept. -/
theorem vbatRun_stays {n : Nat} (hn : (run n).adc.vbatFilt.toNat = (run 0).snap.vbatRaw.toNat) {k : Nat} (hk : n ≤ k) :
    (run k).adc.vbatFilt.toNat = (run 0).snap.vbatRaw.toNat := by
  induction k, hk using Nat.le_induction with
  | base => exact hn
  | succ k _ ih =>
    obtain ⟨hpar, hsnap, hinv⟩ := vbatRun_inv hw h0 hstep k
    rw [hstep k, vbatFilter_of_at (hpar ▸ hw) hinv (hsnap ▸ ih), ih]

end VbatRun

end Sys2Proof.Laws

namespace Sys2Proof.Settled

open Sys2Proof.Laws Sys2Proof.Machine

/-- Settles O27: the filter within its bound is not narrowed; a voltage sample fits its register. -/
theorem currentFilterAndPins : Obligations.CurrentFilterAndPins := by
  refine ⟨fun s x _ hx hfits hacc => ?_, fun s x brake hx => ?_⟩
  · have hle := lowPass_le _ _ _ _ hacc hx
    have hnew := sat_toNat_of_lt 16 _ (hle.trans_lt hfits)
    exact ⟨_, exec_ibatFilter hx, rfl, hnew, sat_shr_toNat _ _ ((Nat.div_le_self _ _).trans_lt (BitVec.isLt _)), hnew.trans_le hle⟩
  · exact ⟨_, exec_pinLatch brake hx, rfl, BitVec.toNat_setWidth_of_le (by decide)⟩

/-- Settles O34: one step on the three sides of the input, and a run of them, which reaches the input and stays. -/
theorem vbatFilter : Obligations.VbatFilter := by
  refine ⟨fun s hw hacc hfilt => ?_, fun s run hw hacc hfilt hstart hrun => ?_⟩
  · have hs : VbatInv s := ⟨hacc, hfilt⟩
    exact ⟨_, rfl, rfl, vbatFilter_vbatAcc_toNat hw hs, (vbatInv_vbatFilter hw hs).2, vbatFilter_of_below hw hs,
      vbatFilter_of_above hw hs, fun hat => congrArg State.adc (vbatFilter_of_at hw hs hat)⟩
  · subst hstart
    have hstep : ∀ k, run (k + 1) = Machine.vbatFilter (run k) := fun k => (Host.Outcome.next.inj (hrun k)).symm
    obtain ⟨n, hn⟩ := vbatRun_reaches hw ⟨hacc, hfilt⟩ hstep
    exact ⟨n, fun k hk => BitVec.eq_of_toNat_eq (vbatRun_stays hw ⟨hacc, hfilt⟩ hstep hn hk)⟩

end Sys2Proof.Settled
end

section
/-! PROOFS. The output gate (rules R362, R363): its three branches, and that a target that stays zero, or stays nonzero, leaves one of
its two directions. -/

namespace Sys2Proof.Laws

open Sys2Proof.Machine

section Gate

variable {s : State}

theorem gateEnable_iff :
    gateEnable s = true ↔ s.rotor.erps.toNat < s.par.erpsEnableMax ∧ 0 < s.drive.iTarget.toNat ∧ s.adc.brake = false := by
  simp [gateEnable, BitVec.toNat_eq, Nat.pos_iff_ne_zero, and_assoc]

theorem gateDisable_iff :
    gateDisable s = true ↔ s.rotor.erps.toNat = 0 ∧ s.drive.iTarget.toNat = 0 ∧ s.drive.duty.toNat = 0 := by
  simp [gateDisable, BitVec.toNat_eq, and_assoc]

/-- A disabled output is enabled with the ramp re-initialised. -/
theorem pwmGate_of_enable (hoff : s.out.pwmEnabled = false) (h : gateEnable s = true) :
    pwmGate s = (s.withOut { s.out with pwmEnabled := true }).withDrive (driveOnEnable s.par s.drive) := by
  simp [pwmGate, hoff, h]

/-- An enabled output is disabled. -/
theorem pwmGate_of_disable (hon : s.out.pwmEnabled = true) (h : gateDisable s = true) :
    pwmGate s = s.withOut { s.out with pwmEnabled := false } := by
  simp [pwmGate, hon, h]

/-- Between the two conditions the gate does nothing. -/
theorem pwmGate_of_hold (henable : ¬(s.out.pwmEnabled = false ∧ gateEnable s = true))
    (hdisable : ¬(s.out.pwmEnabled = true ∧ gateDisable s = true)) : pwmGate s = s := by
  unfold pwmGate
  cases hout : s.out.pwmEnabled with
  | false =>
    have hno : ¬gateEnable s = true := fun h => henable ⟨hout, h⟩
    simp [hno]
  | true =>
    have hno : ¬gateDisable s = true := fun h => hdisable ⟨hout, h⟩
    simp [hno]

/-- With a zero target a disabled output stays so. -/
theorem pwmGate_stays_disabled (hzero : s.drive.iTarget.toNat = 0) (hoff : s.out.pwmEnabled = false) :
    (pwmGate s).out.pwmEnabled = false := by
  have hno : ¬gateEnable s = true := fun h => by
    obtain ⟨-, hpos, -⟩ := gateEnable_iff.mp h
    omega
  rw [pwmGate_of_hold (fun h => hno h.2) (by simp [hoff]), hoff]

/-- With a nonzero target an enabled output stays so. -/
theorem pwmGate_stays_enabled (hpos : 0 < s.drive.iTarget.toNat) (hon : s.out.pwmEnabled = true) :
    (pwmGate s).out.pwmEnabled = true := by
  have hno : ¬gateDisable s = true := fun h => by
    obtain ⟨-, hzero, -⟩ := gateDisable_iff.mp h
    omega
  rw [pwmGate_of_hold (by simp [hon]) (fun h => hno h.2), hon]

end Gate

/-- A flag that never leaves the value `v` changes at most once. -/
theorem changes_once {f : Nat → Bool} {v : Bool} (hstay : ∀ k, f k = v → f (k + 1) = v) {a b : Nat} (hab : a < b)
    (hchange : f (a + 1) ≠ f a) : f (b + 1) = f b := by
  have hreached : f (a + 1) = v := by
    rcases eq_or_ne (f a) v with h | h
    · exact hstay a h
    · rw [Bool.eq_not_of_ne hchange, Bool.eq_not_of_ne h, Bool.not_not]
  have hkept : ∀ k, a + 1 ≤ k → f k = v := fun k hk => Nat.le_induction hreached (fun n _ => hstay n) k hk
  rw [hkept b hab, hkept (b + 1) (by omega)]

end Sys2Proof.Laws

namespace Sys2Proof.Settled

open Sys2Proof.Laws Sys2Proof.Machine

/-- Settles O54: one clause per branch of the gate. -/
theorem pwmGate : Obligations.PwmGate := by
  intro s hw
  rw [← gateEnable_iff, ← gateDisable_iff]
  refine ⟨fun ⟨hoff, h⟩ => ?_, fun ⟨hon, h⟩ => congrArg _ (pwmGate_of_disable hon h),
    fun henable hdisable => congrArg _ (pwmGate_of_hold henable hdisable)⟩
  have hduty : s.par.dutyStartup < 256 := Nat.lt_succ_of_le ((dutyStartup_of_wf hw).trans (dutyMax_of_wf hw).2)
  refine ⟨Machine.pwmGate s, rfl, ?_⟩
  rw [pwmGate_of_enable hoff h]
  exact ⟨rfl, sat_toNat_of_lt 8 _ hduty, sat_toNat_of_lt 8 _ (Nat.lt_succ_of_le (rampUpMin_of_wf hw).2),
    sat_toNat_of_lt 8 _ (Nat.lt_succ_of_le (rampDownMin_of_wf hw).2)⟩

/-- Settles O56: the output before each step is a flag that a zero target never raises and a nonzero one never lowers. -/
theorem noChatter : Obligations.NoChatter := by
  intro run next hgate hchain htarget a b hab
  obtain rfl : next = fun k => Machine.pwmGate (run k) := funext fun k => (Host.Outcome.next.inj (hgate k)).symm
  rw [← hchain a, ← hchain b]
  rcases htarget with hzero | hpos
  · exact changes_once (f := fun k => (run k).out.pwmEnabled) (v := false)
      (fun k hoff => (hchain k).trans (pwmGate_stays_disabled (hzero k) hoff)) hab
  · exact changes_once (f := fun k => (run k).out.pwmEnabled) (v := true)
      (fun k hon => (hchain k).trans (pwmGate_stays_enabled (hpos k) hon)) hab

end Sys2Proof.Settled
end

section
/-! PROOFS. A stall reported in PWM_FALLING (rules R140, R142, R143, R433): true times less than a period of the tick counter apart
are as far apart by their samples. -/

namespace Sys2Proof.Laws

open Sys2Proof.Machine

/-- The samples of two times less than one period apart differ by the time between them (rules R11, R432). -/
theorem tickDiff_ofNat {h b : Nat} (hle : h ≤ b) (hlt : b - h < 65536) :
    (tickDiff (BitVec.ofNat 16 b) (BitVec.ofNat 16 h)).toNat = b - h := by
  rw [tickDiff_toNat, BitVec.toNat_ofNat, BitVec.toNat_ofNat]
  omega

/-- The rest of PWM_FALLING keeps what the stall wrote and derives a speed of 0 from it (rules R140, R142, R352). -/
theorem pwmFalling_of_stalled {tick : U16} {s : State} (h : s.par.stallTicks < (tickDiff tick s.rotor.hallRefTick).toNat) :
    (pwmFalling tick s).rotor.commMode = .blocked ∧ (pwmFalling tick s).rotor.revRefValid = false
      ∧ (pwmFalling tick s).rotor.erps = 0 ∧ (pwmFalling tick s).foc.focAngle = 0 := by
  rw [pwmFalling, stallCheck_of_stalled h]
  exact ⟨rfl, rfl, rfl, rfl⟩

end Sys2Proof.Laws

namespace Sys2Proof.Settled

open Sys2Proof.Laws Sys2Proof.Machine

/-- Settles O18: the time since the transition is past the threshold and has not wrapped. -/
theorem noStallIsMissed : Obligations.NoStallIsMissed := by
  intro s h a b hcfg _ href hha hab hnone hgap hstall
  refine ⟨_, exec_pwmFalling _ hcfg, pwmFalling_of_stalled ?_⟩
  rwa [href, tickDiff_ofNat (hha.trans hab) (by omega)]

end Sys2Proof.Settled
end

section
/-! PROOFS. The soft faults (`60_exceptions.md`): FAULT_DETECT by its conditions (rules R382 to R387), and the end of every fault (rule
R390): a tick that is not blocked takes one off the cooldown, and with the cooldown over, a command taken and no torque fault nothing is
left to report. -/

namespace Sys2Proof.Laws

open Sys2Proof.Machine

/-! ### The conditions (rules R382 to R384) -/

theorem blockedNow_iff (s : State) :
    blockedNow s = true ↔ s.par.mbIMin < s.snap.ibatFilt.toNat ∧ s.snap.erps.toNat < s.par.mbErpsMax := by
  simp [blockedNow]

theorem torqueFault_iff (s : State) :
    torqueFault s = true ↔ (s.ctl.mode = .powerAssist ∨ s.ctl.mode = .emtbAssist) ∧ s.tq.tqBootCnt.toNat = s.par.tqZeroTicks
      ∧ (s.tq.tqOffset.toNat < s.par.tqOffsetMin ∨ s.par.tqOffsetMax < s.tq.tqOffset.toNat
        ∨ s.tq.tqRaw.toNat < s.par.tqRawMin ∨ s.par.tqRawMax < s.tq.tqRaw.toNat) := by
  simp [torqueFault, and_assoc]

theorem commFault_iff (s : State) : commFault s = true ↔ s.par.commMissMax < s.asst.commMissed.toNat := decide_eq_true_iff

/-! ### The motor-blocked counters (rule R386) -/

section Counters

variable {p : Params} {blocked : Bool} {a : AssistState}

/-- While a cooldown runs nothing is counted. -/
theorem mbUpdate_of_cooling (h : a.mbCooldown ≠ 0) :
    mbUpdate p blocked a =
      { a with mbCnt := 0, mbCooldown := if blocked then sat 16 p.mbCooldownTicks else a.mbCooldown - 1 } := if_pos h

/-- A tick that is not blocked clears the count and takes one off the cooldown. -/
theorem mbUpdate_of_free (hpos : 0 < p.mbTicks) (hfree : ¬blocked = true) :
    (mbUpdate p blocked a).mbCnt.toNat = 0 ∧ (mbUpdate p blocked a).mbCooldown.toNat = a.mbCooldown.toNat - 1 := by
  obtain rfl : blocked = false := Bool.eq_false_iff.mpr hfree
  by_cases hcool : a.mbCooldown = 0
  · have hcnt : ¬p.mbTicks ≤ 0 := Nat.not_le.mpr hpos
    simp [mbUpdate, hcool, hcnt]
  · rw [mbUpdate_of_cooling hcool]
    exact ⟨rfl, toNat_sub_one hcool⟩

/-- One that is blocked starts a running cooldown again. -/
theorem mbUpdate_of_blocked_cooling (hfits : p.mbCooldownTicks < 65536) (hblocked : blocked = true)
    (hcool : 0 < a.mbCooldown.toNat) :
    (mbUpdate p blocked a).mbCnt.toNat = 0 ∧ (mbUpdate p blocked a).mbCooldown.toNat = p.mbCooldownTicks := by
  subst hblocked
  rw [mbUpdate_of_cooling (mt (eq_zero_iff_toNat _).mp hcool.ne')]
  exact ⟨rfl, sat_toNat_of_lt 16 _ hfits⟩

/-- With no cooldown it is counted, short of MB_TICKS. -/
theorem mbUpdate_of_blocked_short (hblocked : blocked = true) (hcool : a.mbCooldown.toNat = 0) (hcnt : a.mbCnt.toNat < 65535)
    (hshort : a.mbCnt.toNat + 1 < p.mbTicks) :
    (mbUpdate p blocked a).mbCnt.toNat = a.mbCnt.toNat + 1 ∧ (mbUpdate p blocked a).mbCooldown.toNat = 0 := by
  have hzero : a.mbCooldown = 0 := (eq_zero_iff_toNat _).mpr hcool
  have hnext : (sat 16 (a.mbCnt.toNat + 1)).toNat = a.mbCnt.toNat + 1 := sat_toNat_of_lt 16 _ (by omega)
  simp [mbUpdate, hzero, hblocked, hnext, Nat.not_le.mpr hshort]

/-- At MB_TICKS the cooldown starts. -/
theorem mbUpdate_of_blocked_elapsed (hfits : p.mbCooldownTicks < 65536) (hblocked : blocked = true)
    (hcool : a.mbCooldown.toNat = 0) (hcnt : a.mbCnt.toNat < 65535) (hge : p.mbTicks ≤ a.mbCnt.toNat + 1) :
    (mbUpdate p blocked a).mbCnt.toNat = 0 ∧ (mbUpdate p blocked a).mbCooldown.toNat = p.mbCooldownTicks := by
  have hzero : a.mbCooldown = 0 := (eq_zero_iff_toNat _).mpr hcool
  have hnext : (sat 16 (a.mbCnt.toNat + 1)).toNat = a.mbCnt.toNat + 1 := sat_toNat_of_lt 16 _ (by omega)
  simpa [mbUpdate, hzero, hblocked, hnext, hge] using sat_toNat_of_lt 16 _ hfits

end Counters

/-! ### The state reported (rules R385, R387) -/

section Reported

variable {s : State}

theorem faultDetect_mode (s : State) : (faultDetect s).ctl.mode = s.ctl.mode := rfl

/-- FAULT_DETECT writes the counters and the system state (rule R386). -/
theorem faultDetect_frame (s : State) :
    faultDetect s = { s with
      asst := { s.asst with mbCnt := (faultDetect s).asst.mbCnt, mbCooldown := (faultDetect s).asst.mbCooldown }
      ctl := { s.ctl with systemState := (faultDetect s).ctl.systemState } } :=
  congrArg (fun a => (s.withAsst a).withCtl { s.ctl with systemState := (faultDetect s).ctl.systemState })
    (mbUpdate_frame s.par (blockedNow s) s.asst)

theorem faultDetect_of_cooling (h : 0 < (faultDetect s).asst.mbCooldown.toNat) :
    (faultDetect s).ctl.systemState = .motorBlocked :=
  (sysOf_eq_motorBlocked_iff _ _ _).mpr (decide_eq_true (mt (eq_zero_iff_toNat _).mp h.ne'))

/-- With no cooldown the other two conditions decide. -/
theorem faultDetect_of_cooled (h : (faultDetect s).asst.mbCooldown.toNat = 0) :
    (faultDetect s).ctl.systemState = sysOf false (torqueFault s) (commFault s) := by
  have hzero : (faultDetect s).asst.mbCooldown = 0 := (eq_zero_iff_toNat _).mpr h
  exact congrArg (sysOf · (torqueFault s) (commFault s)) (decide_eq_false (not_not.mpr hzero))

theorem sysOf_of_torque {fTq : Bool} (fComm : Bool) (h : fTq = true) : sysOf false fTq fComm = .torqueSensorFault := by
  simp [sysOf, h]

theorem sysOf_of_comm {fTq fComm : Bool} (htq : ¬fTq = true) (h : fComm = true) : sysOf false fTq fComm = .commLost := by
  simp [sysOf, htq, h]

theorem sysOf_of_none {fTq fComm : Bool} (htq : ¬fTq = true) (h : ¬fComm = true) : sysOf false fTq fComm = .noError := by
  simp [sysOf, htq, h]

end Reported

/-! ### A control tick (rules R103, R390) -/

section Tick

variable {x q : U12} {s t : State}

/-- What FAULT_DETECT finds in a tick: the measurements, with the tick open. -/
def tickMeasured (q : U12) (s : State) : State := tickMeasure q (s.withAsst { s.asst with tickOpen := true })

/-- The blocked condition reads registers of PWM by way of the snapshot (rule R356). -/
theorem blockedNow_tickMeasured :
    blockedNow (tickMeasured q s) = true ↔ s.par.mbIMin < s.adc.ibatFilt.toNat ∧ s.rotor.erps.toNat < s.par.mbErpsMax := by
  have hsnap : (tickMeasured q s).snap.ibatFilt = s.adc.ibatFilt ∧ (tickMeasured q s).snap.erps = s.rotor.erps :=
    cmdLatch_elim (P := fun u => (snapshot u).snap.ibatFilt = s.adc.ibatFilt ∧ (snapshot u).snap.erps = s.rotor.erps)
      (s := s.withAsst { s.asst with tickOpen := true }) fun _ _ _ _ _ _ _ => ⟨rfl, rfl⟩
  have hpar : (tickMeasured q s).par = s.par := tickMeasure_par q _
  obtain ⟨hibat, herps⟩ := hsnap
  rw [blockedNow_iff, hpar, hibat, herps]

/-- The measurements leave the cooldown. -/
theorem tickMeasured_mbCooldown : (tickMeasured q s).asst.mbCooldown = s.asst.mbCooldown :=
  cmdLatch_elim (P := fun u => u.asst.mbCooldown = s.asst.mbCooldown)
    (s := s.withAsst { s.asst with tickOpen := true }) fun _ _ _ _ _ _ _ => rfl

/-- A pending command is taken: none is missed (rules R355, R384). -/
theorem tickMeasured_commMissed (h : s.asst.cmdPending = true) : (tickMeasured q s).asst.commMissed = 0 :=
  congrArg (·.asst.commMissed) (cmdLatch_of_pending (s := s.withAsst { s.asst with tickOpen := true }) h)

/-- The decisions leave the cooldown (rules R300, R327, R340). -/
theorem tickDecisions_mbCooldown (x : U12) (u : State) : (tickDecisions x u).asst.mbCooldown = u.asst.mbCooldown := by
  have hpost : (postProcess x (modePolicy u)).asst.mbCooldown = u.asst.mbCooldown := by
    rw [postProcess_frame, modePolicy_frame]
  exact hpost

section Completed

variable (h : exec (.tickBegin x q) s = .next t)
include h

theorem tickBegin_decisions : t = tickDecisions x (faultDetect (tickMeasured q s)) := tickBegin_next h

theorem tickBegin_mbCooldown : t.asst.mbCooldown = (faultDetect (tickMeasured q s)).asst.mbCooldown := by
  rw [tickBegin_decisions h, tickDecisions_mbCooldown]

theorem tickBegin_ctl : t.ctl = (faultDetect (tickMeasured q s)).ctl := by
  obtain ⟨-, -, hctl, -⟩ := sameInputs_tickDecisions x (faultDetect (tickMeasured q s))
  rw [tickBegin_decisions h, hctl]

theorem tickBegin_tq : t.tq = (tickMeasured q s).tq := by
  obtain ⟨-, htq, -⟩ := sameInputs_tickDecisions x (faultDetect (tickMeasured q s))
  rw [tickBegin_decisions h, htq, faultDetect_tq]

/-- A tick that is not blocked takes one off the cooldown (rule R386). -/
theorem tickBegin_mbCooldown_of_free (hpos : 0 < s.par.mbTicks)
    (hfree : ¬(s.par.mbIMin < s.adc.ibatFilt.toNat ∧ s.rotor.erps.toNat < s.par.mbErpsMax)) :
    t.asst.mbCooldown.toNat = s.asst.mbCooldown.toNat - 1 := by
  have hpar : (tickMeasured q s).par = s.par := tickMeasure_par q _
  have hcount := mbUpdate_of_free (a := (tickMeasured q s).asst) (hpar ▸ hpos) (mt (blockedNow_tickMeasured (q := q)).mp hfree)
  rw [tickMeasured_mbCooldown] at hcount
  rw [tickBegin_mbCooldown h]
  exact hcount.2

/-- With the cooldown over, a command taken and no torque reading out of bounds that matters, no fault is reported (rule R387). -/
theorem tickBegin_noError (hcool : t.asst.mbCooldown.toNat = 0) (hcmd : s.asst.cmdPending = true)
    (htq : (t.ctl.mode ≠ .powerAssist ∧ t.ctl.mode ≠ .emtbAssist)
      ∨ (s.par.tqOffsetMin ≤ t.tq.tqOffset.toNat ∧ t.tq.tqOffset.toNat ≤ s.par.tqOffsetMax
        ∧ s.par.tqRawMin ≤ t.tq.tqRaw.toNat ∧ t.tq.tqRaw.toNat ≤ s.par.tqRawMax)) : t.ctl.systemState = .noError := by
  have hpar : (tickMeasured q s).par = s.par := tickMeasure_par q _
  have hmode : t.ctl.mode = (tickMeasured q s).ctl.mode := by rw [tickBegin_ctl h, faultDetect_mode]
  have hnotq : ¬torqueFault (tickMeasured q s) = true := by
    rw [torqueFault_iff, hpar, ← hmode, ← tickBegin_tq h]
    rintro ⟨hassist, -, hout⟩
    rcases htq with ⟨hpower, hemtb⟩ | hin
    · exact hassist.elim hpower hemtb
    · omega
  have hnocomm : ¬commFault (tickMeasured q s) = true := by
    rw [commFault_iff, tickMeasured_commMissed hcmd]
    exact Nat.not_lt_zero _
  rw [tickBegin_mbCooldown h] at hcool
  rw [tickBegin_ctl h, faultDetect_of_cooled hcool, sysOf_of_none hnotq hnocomm]

end Completed

end Tick

theorem mbTicks_of_wf {p : Params} (h : p.wf = true) : 0 < p.mbTicks := by
  simpa using check_of_wf h (c := ("MB_TICKS", decide (0 < p.mbTicks))) (by simp [Params.checks])

end Sys2Proof.Laws

namespace Sys2Proof.Settled

open Sys2Proof.Laws Sys2Proof.Machine

/-- Settles O38: the counters with and without a cooldown, then the state by what is left of it. -/
theorem faultDetect : Obligations.FaultDetect := by
  intro s _ hfits hpos hcnt
  refine ⟨_, rfl, faultDetect_frame s, _, _, _, blockedNow_iff s, torqueFault_iff s, commFault_iff s, fun hcool => ?_,
    fun hcool => ⟨fun hfree => ?_, fun hb => mbUpdate_of_blocked_short hb hcool hcnt,
      fun hb => mbUpdate_of_blocked_elapsed hfits hb hcool hcnt⟩,
    faultDetect_of_cooling, fun hz htq => (faultDetect_of_cooled hz).trans (sysOf_of_torque _ htq),
    fun hz htq hcomm => (faultDetect_of_cooled hz).trans (sysOf_of_comm htq hcomm),
    fun hz htq hcomm => (faultDetect_of_cooled hz).trans (sysOf_of_none htq hcomm)⟩
  · refine ⟨?_, fun hb => (mbUpdate_of_blocked_cooling hfits hb hcool).2, fun hfree => (mbUpdate_of_free hpos hfree).2⟩
    rcases em (blockedNow s = true) with hb | hfree
    · exact (mbUpdate_of_blocked_cooling hfits hb hcool).1
    · exact (mbUpdate_of_free hpos hfree).1
  · obtain ⟨hzero, hleft⟩ := mbUpdate_of_free (a := s.asst) hpos hfree
    exact ⟨hzero, hleft.trans (by omega)⟩

/-- Settles O40: the cooldown before the k-th tick is at most what k ticks leave of MB_COOLDOWN_TICKS, by induction on the ticks. -/
theorem faultsEnd : Obligations.FaultsEnd := by
  intro pre post x q p hw hpar htick hkeep hstart hcmd hfree htq k hk
  have hdown : ∀ k, (post k).asst.mbCooldown.toNat = (pre k).asst.mbCooldown.toNat - 1 := fun k => by
    refine tickBegin_mbCooldown_of_free (htick k) ?_ ?_
    · rw [hpar k]; exact mbTicks_of_wf hw
    · rw [hpar k]; exact hfree k
  have hleft : ∀ k, (pre k).asst.mbCooldown.toNat ≤ p.mbCooldownTicks - k := by
    intro k
    induction k with
    | zero => exact hstart
    | succ k ih =>
      rw [(hkeep k).2, hdown k]
      omega
  have hover : (post k).asst.mbCooldown.toNat = 0 := by
    have := hleft k
    rw [hdown k]
    omega
  exact tickBegin_noError (htick k) hover (hcmd k) (by rw [hpar k]; exact htq k)

end Sys2Proof.Settled
end
